-- ==== Sys2Proof/Word.lean ====
section
/-! DEFINITION. The word of the block: every register, latch and bus value has 64 bits (R20, R57). -/

namespace Sys2Proof

/-- A 64-bit register value. -/
abbrev Word := BitVec 64

/-- `zext_64` of R15 for a natural number below `2^64`. -/
def zext64 (n : Nat) : Word := BitVec.ofNat 64 n

end Sys2Proof
end

