-- ==== Sys2Proof/Config.lean ====
section
/-! DEFINITION. What an implementation fixes (00_scope.md R6 to R14) and the free values, which the spec leaves open. -/

namespace Sys2Proof

/-- How the power table is realised (R11). -/
inductive PtMode where
  | grown
  | rom
  deriving DecidableEq, Repr

/-- The instruction subset (R12). -/
inductive Variant where
  | full
  | reduced
  deriving DecidableEq, Repr

/-- The elaboration parameters of one block instance (R6, R7, R9 to R13). -/
structure Config where
  mod      : Nat
  base     : Nat
  elemW    : Nat
  winCap   : Nat
  ptMode   : PtMode
  variant  : Variant
  baseAddr : Nat
  deriving DecidableEq, Repr

/-- Legality of a parameter set (R14). -/
abbrev Config.Legal (c : Config) : Prop :=
  Nat.Prime c.mod ∧ 0 < c.base ∧ c.base < c.mod ∧ c.mod * c.mod ≤ 2 ^ 64 - 1 ∧
    1 ≤ c.elemW ∧ c.elemW ≤ 64 ∧ 1 ≤ c.winCap

/-- The reference instantiation (the parameter summary of 00_scope.md section 4).
DESIGN CHOICE (log entry 1): WIN_CAP and BASE_ADDR are OPEN in the spec; 16 is what its vectors take, 0 is the model's. -/
def Config.reference : Config :=
  { mod := 1000000007, base := 257, elemW := 32, winCap := 16, ptMode := .grown, variant := .full, baseAddr := 0 }

/-- What a read of RESULT, HASH, WLEN, PLEN or WDATA returns while a command is in flight (R202), one value per draw. -/
opaque Config.freeRead : Nat → Word

/-- The finite delay from an accepted CMD write to its completion (R201), one value per draw. -/
opaque Config.freeEngineDelay : Nat → Nat

/-- The finite number of moves `req_ready` stays 0 (R51), one value per draw. -/
opaque Config.freeStall : Nat → Nat

/-- The finite number of moves before a response is given (R52), one value per draw. -/
opaque Config.freeResponseDelay : Nat → Nat

/-- The unspecified contents of the power-table entry `k` at or beyond PLEN (R28), by draw and index. -/
opaque Config.freePower : Nat → Nat → Word

/-- What a 64-bit view of a count shows when the count does not fit (log entry 13: R14 bounds WIN_CAP only from below). -/
opaque Config.freeCount : Nat → Word

end Sys2Proof
end

