-- ==== Sys2Proof/Syntax.lean ====
section
/-! DEFINITION. The twelve commands, one constructor per row of spec/opcode_table.json (R83). A command word carries no
operand fields (R80), so no constructor has an argument. -/

namespace Sys2Proof

/-- A command of the opcode map (R83). -/
inductive Instr where
  /-- 0x00 NOP (R160) -/
  | nop
  /-- 0x01 MRED, `from(raw)` (R102) -/
  | mred
  /-- 0x02 MADD, `add(a, b)` (R103) -/
  | madd
  /-- 0x03 MSUB, `sub(a, b)` (R104) -/
  | msub
  /-- 0x04 MMUL, `mul(a, b)` (R105) -/
  | mmul
  /-- 0x05 MDIV, `div(a, b)` (R109) -/
  | mdiv
  /-- 0x06 MINV, `inverse(x)` (R108) -/
  | minv
  /-- 0x10 APPB, `append_at_back(x)` (R134) -/
  | appb
  /-- 0x11 REMF, `remove_front()` (R136) -/
  | remf
  /-- 0x12 REMB, `remove_back()` (R138) -/
  | remb
  /-- 0x13 APPF, `append_at_front(x)` (R140) -/
  | appf
  /-- 0x1F CLEAR, "construct empty instance" (R162) -/
  | clear
  deriving DecidableEq, Repr

end Sys2Proof
end

