-- ==== Sys2Proof/Decode.lean ====
section
/-! DEFINITION. Decoding a command word (30_encoding.md R80 to R88), total on every 64-bit word, each rejection by name,
and the encoder written from the same table. -/

namespace Sys2Proof

/-- Why a command word is ILLEGAL (R84, in R180's order). -/
inductive Illegal where
  /-- RSVD (bits 63:8) is not zero (R85) -/
  | reservedBits
  /-- OPCODE is not in the table of R83 (R86) -/
  | unassigned
  /-- the opcode is not in the variant (R86) -/
  | notInVariant
  /-- the element operand has bits above ELEM_W (R88) -/
  | elementRange
  deriving DecidableEq, Repr

/-- The opcode map (R83), row by row. -/
def opcodeMap : List (BitVec 8 × Instr) :=
  [ (0x00#8, .nop), (0x01#8, .mred), (0x02#8, .madd), (0x03#8, .msub), (0x04#8, .mmul), (0x05#8, .mdiv), (0x06#8, .minv) ]
  ++ [ (0x10#8, .appb), (0x11#8, .remf), (0x12#8, .remb), (0x13#8, .appf), (0x1F#8, .clear) ]

/-- Field OPCODE, bits 7:0 (R80). -/
def opcodeField (w : Word) : BitVec 8 := w.extractLsb' 0 8

/-- Field RSVD, bits 63:8 (R80). -/
def reservedField (w : Word) : BitVec 56 := w.extractLsb' 8 56

/-- The part of R84 that reads the command word alone. -/
def decodeWord (w : Word) : Except Illegal Instr :=
  if reservedField w ≠ 0#56 then .error .reservedBits
  else match opcodeMap.lookup (opcodeField w) with
    | some i => .ok i
    | none   => .error .unassigned

/-- The commands of the REDUCED variant: all but MDIV, MINV, REMB and APPF (R83, R86). -/
def inReduced (i : Instr) : Bool :=
  match i with
  | .nop   => true
  | .mred  => true
  | .madd  => true
  | .msub  => true
  | .mmul  => true
  | .mdiv  => false
  | .minv  => false
  | .appb  => true
  | .remf  => true
  | .remb  => false
  | .appf  => false
  | .clear => true

/-- Whether an instance's variant has a command (R12, R86). -/
def variantAdmits (c : Config) (i : Instr) : Bool :=
  match c.variant with
  | .full    => true
  | .reduced => inReduced i

/-- `LA[63:ELEM_W] = 0`; there is no check when `ELEM_W = 64` (R88). -/
def elementFits (c : Config) (la : Word) : Bool := decide (64 ≤ c.elemW) || la >>> c.elemW == 0#64

/-- The element range check, which APPB and APPF have and no other command (R88). -/
def elementInRange (c : Config) (la : Word) (i : Instr) : Bool :=
  match i with
  | .nop   => true
  | .mred  => true
  | .madd  => true
  | .msub  => true
  | .mmul  => true
  | .mdiv  => true
  | .minv  => true
  | .appb  => elementFits c la
  | .remf  => true
  | .remb  => true
  | .appf  => elementFits c la
  | .clear => true

/-- The checks of R84 on a command of the table: its variant first, then its element (R180). -/
def checkCommand (c : Config) (la : Word) (i : Instr) : Option Illegal :=
  if variantAdmits c i = false then some .notInVariant
  else if elementInRange c la i = false then some .elementRange
  else none

/-- `decode(LOP)` of R84. -/
def decode (c : Config) (lop la : Word) : Except Illegal Instr :=
  match decodeWord lop with
  | .error e => .error e
  | .ok i =>
    match checkCommand c la i with
    | some e => .error e
    | none   => .ok i

/-- The OPCODE of a command (R83). -/
def opcode (i : Instr) : BitVec 8 :=
  match i with
  | .nop   => 0x00#8
  | .mred  => 0x01#8
  | .madd  => 0x02#8
  | .msub  => 0x03#8
  | .mmul  => 0x04#8
  | .mdiv  => 0x05#8
  | .minv  => 0x06#8
  | .appb  => 0x10#8
  | .remf  => 0x11#8
  | .remb  => 0x12#8
  | .appf  => 0x13#8
  | .clear => 0x1F#8

/-- The command word of a command: RSVD = 0 (R80, R91). -/
def encode (i : Instr) : Word := (0#56) ++ opcode i

/-- The command a word of the opcode table decodes to: one 64-bit CMD value (R81), bit 0 its least significant bit. -/
def decodeTableWord (nbits w : Nat) : Option Instr :=
  if 2 ^ 64 ≤ w % 2 ^ nbits then none
  else (decodeWord (BitVec.ofNat 64 (w % 2 ^ nbits))).toOption

end Sys2Proof
end

