-- ==== Sys2Proof/Machine/PowerTable.lean ====
section
/-! DEFINITION. The power_table_cache: the value of its entries (R28), its contents after reset (R190) and its growth (R133). -/

namespace Sys2Proof.Machine

/-- `BASE^k mod MOD` (R28). -/
def powerEntry (c : Config) (k : Nat) : Word := zext64 (c.base ^ k % c.mod)

/-- The valid entries after reset (R190): `PT[0] = 1` (GROWN), or all `WIN_CAP + 1` entries (ROM). -/
def resetTable (c : Config) : List Word :=
  match c.ptMode with
  | .grown => [1#64]
  | .rom   => (List.range (c.winCap + 1)).map (powerEntry c)

/-- A read of `PT[k]`; an entry at or beyond PLEN holds an unspecified value (R28, log entry 12). -/
def tableEntry (draw : Nat) (pt : List Word) (k : Nat) : Word :=
  pt.getD k (Config.freePower draw k)

/-- `n` runs of the loop body of `grow()` (R133): `PT[PLEN] <- PT[PLEN - 1] · BASE mod MOD`. -/
def growTable (c : Config) (draw : Nat) : Nat → List Word → List Word
  | 0, pt => pt
  | n + 1, pt =>
    growTable c draw n (pt ++ [zext64 ((tableEntry draw pt (pt.length - 1)).toNat * c.base % c.mod)])

end Sys2Proof.Machine
end

