-- ==== Sys2Proof/Machine/State.lean ====
section
/-! DEFINITION. The state of one block instance (10_state.md R20) with the host that drives it (R18, R95), as plain data. -/

namespace Sys2Proof.Machine

/-- Why the machine stops with a fault. The block's own faults (ILL, DZ, OVF, OVR, bus error) are no stops: they set a
STATUS bit or an error response and the block goes on (R170, R178, R60). -/
inductive Fault where
  /-- Raised by `step` alone, in a state before the first reset, where R193 leaves every behaviour unspecified. Safe. -/
  | notReset
  deriving DecidableEq, Repr

/-- Why something has no meaning in the model. -/
inductive Refusal where
  /-- Raised by an arm of `exec` whose command has no meaning yet; no arm does. Safe. -/
  | notModelled (mnemonic : String)
  /-- Raised by `State.build` alone, for a parameter set that R14 calls illegal: no machine is built. Safe. -/
  | illegalConfig
  deriving DecidableEq, Repr

/-- The four sticky fault bits of STATUS (R30, R172). -/
inductive FaultBit where
  | ill
  | dz
  | ovf
  | ovr
  deriving DecidableEq, Repr

/-- The fields of STATUS (R30); bits 63:5 are hardwired 0 and have no storage. -/
structure Status where
  busy : Bool
  ill  : Bool
  dz   : Bool
  ovf  : Bool
  ovr  : Bool
  deriving DecidableEq, Repr

/-- One request on the bus: `req_we`, `req_addr`, `req_size`, `req_wdata` (R50). -/
structure Request where
  we    : Bool
  addr  : BitVec 8
  size  : BitVec 2
  wdata : Word
  deriving DecidableEq, Repr

/-- One response on the bus: `rsp_rdata`, `rsp_err` (R50). -/
structure Response where
  rdata : Word
  err   : Bool
  deriving DecidableEq, Repr

/-- One statement of the host's program (R89, R92, R95): an access, or the `wait` loop. -/
inductive HostOp where
  | access (r : Request)
  | wait
  deriving DecidableEq, Repr

/-- The state of the machine. -/
structure State where
  /-- MOD, BASE, WIN_CAP, ELEM_W, PT_MODE, VARIANT, BASE_ADDR: what MODR, BASER, CAPR and CONFIG show (R32, R33) -/
  cfg : Config
  /-- OPA (R21) -/
  opa : Word
  /-- OPB (R22) -/
  opb : Word
  /-- RESULT (R23) -/
  result : Word
  /-- HASH (R24) -/
  hash : Word
  /-- the window, front to back; WLEN is its length (R26) -/
  window : List Word
  /-- the valid entries of the power table; PLEN is its length (R27, R28) -/
  pt : List Word
  /-- STATUS (R30); BUSY is also the in-flight mark (R34) -/
  status : Status
  /-- WIDX (R35) -/
  widx : Word
  /-- LOP (R34), 64 bits as R84 reads it (log entry 2) -/
  lop : Word
  /-- LA (R34) -/
  la : Word
  /-- LB (R34) -/
  lb : Word
  /-- moves left before the command in flight may complete (R201, log entry 5) -/
  engineDelay : Nat
  /-- the response to the transferred request, until it is given (R52) -/
  outstanding : Option Response
  /-- moves left before the outstanding response is given (R52, log entry 6) -/
  rspDelay : Nat
  /-- moves left with `req_ready = 0` (R51, log entry 6) -/
  reqStall : Nat
  /-- a reset has happened (R193, log entry 11) -/
  wasReset : Bool
  /-- the platform's coming reset edges, each as the moves before it (R190, R192, log entry 8) -/
  rst : List Nat
  /-- the host's program (R95, log entry 9) -/
  host : List HostOp
  /-- the index of the host's next access (R31, R164) -/
  pc : Nat
  /-- the responses the host has received, oldest first (R52) -/
  responses : List Response
  /-- how many free values have been drawn (log entry 4) -/
  draws : Nat
  deriving DecidableEq, Repr

/-- STATUS after reset (R190). -/
def Status.clear : Status := { busy := false, ill := false, dz := false, ovf := false, ovr := false }

/-- The block after reset (R190) with parameters `c`, no host program and no reset to come.
DESIGN CHOICE: the latches, unspecified in R190, are 0 (log entry 3); the model's own fields start at 0 or empty (log
entries 4 to 9). -/
def State.init (c : Config) : State :=
  { cfg := c, opa := 0, opb := 0, result := 0, hash := 0, window := [], pt := resetTable c, status := Status.clear,
    widx := 0, lop := 0, la := 0, lb := 0, engineDelay := 0, outstanding := none, rspDelay := 0, reqStall := 0,
    wasReset := true, rst := [], host := [], pc := 0, responses := [], draws := 0 }

/-- The machine right after reset (R190), with the reference parameters (log entry 1). -/
def State.reset : State := State.init Config.reference

end Sys2Proof.Machine
end

