-- ==== Sys2Proof/Machine/Flags.lean ====
section
/-! DEFINITION. STATUS (R30): its 64-bit view, setting a sticky bit (R178), and the outputs made from it (R50). -/

namespace Sys2Proof.Machine

/-- The 64-bit value of STATUS: BUSY, ILL, DZ, OVF, OVR in bits 0 to 4, bits 63:5 hardwired 0 (R30). -/
def Status.word (st : Status) : Word :=
  (0#59) ++ (BitVec.ofBool st.ovr ++ (BitVec.ofBool st.ovf ++ (BitVec.ofBool st.dz ++
    (BitVec.ofBool st.ill ++ BitVec.ofBool st.busy))))

/-- `STATUS.F <- 1`; every other bit stays (R178). -/
def Status.set (f : FaultBit) (st : Status) : Status :=
  match f with
  | .ill => { st with ill := true }
  | .dz  => { st with dz := true }
  | .ovf => { st with ovf := true }
  | .ovr => { st with ovr := true }

/-- One fault bit of STATUS. -/
def Status.get (f : FaultBit) (st : Status) : Bool :=
  match f with
  | .ill => st.ill
  | .dz  => st.dz
  | .ovf => st.ovf
  | .ovr => st.ovr

/-- `STATUS.BUSY <- b`. -/
def Status.setBusy (b : Bool) (st : Status) : Status := { st with busy := b }

/-- The output `err`: the OR of the fault bits (R50). -/
def Status.err (st : Status) : Bool := st.ill || st.dz || st.ovf || st.ovr

end Sys2Proof.Machine
end

