-- ==== Sys2Proof/Machine/Operands.lean ====
section
/-! DEFINITION. Operand assembly from the latches (R82) and the modular units (40_modular_arith.md): reduction, adder,
subtractor, multiplier, power and inverse, on residues as natural numbers (R16). -/

namespace Sys2Proof.Machine

/-- `red(v) = v mod MOD` of a 64-bit value (R16, R102). -/
def red (c : Config) (v : Word) : Nat := v.toNat % c.mod

/-- The operand `a = red(LA)` (R82). -/
def operandA (s : State) : Nat := red s.cfg s.la

/-- The operand `b = red(LB)` (R82). -/
def operandB (s : State) : Nat := red s.cfg s.lb

/-- The element `x = LA[ELEM_W-1:0]` (R82). -/
def elementOf (c : Config) (la : Word) : Word := zext64 (la.toNat % 2 ^ c.elemW)

/-- The modular_adder (R103). -/
def modAdd (c : Config) (a b : Nat) : Nat := (a + b) % c.mod

/-- The modular_subtractor (R104): `(a + MOD - b) mod MOD`, never below zero. -/
def modSub (c : Config) (a b : Nat) : Nat := (a + c.mod - b) % c.mod

/-- The modular_multiplier (R105). -/
def modMul (c : Config) (a b : Nat) : Nat := a * b % c.mod

/-- The loop of `modpow` (R106), least significant bit of the exponent first; the first argument bounds the number of
rounds, and `e` rounds are always enough. -/
def modpowLoop (c : Config) : Nat → Nat → Nat → Nat → Nat
  | 0, acc, _, _ => acc
  | fuel + 1, acc, base, e =>
    if e = 0 then acc
    else modpowLoop c fuel (if e % 2 = 1 then acc * base % c.mod else acc) (base * base % c.mod) (e / 2)

/-- `modpow(x, e)` (R106). -/
def modpow (c : Config) (x e : Nat) : Nat := modpowLoop c e 1 x e

/-- The modular_inverse: `inv(x) = modpow(x, MOD - 2)` (R107). -/
def modInv (c : Config) (x : Nat) : Nat := modpow c x (c.mod - 2)

end Sys2Proof.Machine
end

