-- ==== Sys2Proof/Machine/Ops.lean ====
section
/-! DEFINITION. The named operations the commands share: completing (R201), raising a fault (R17, R171), writing RESULT,
HASH and the window, growing the power table (R133), the legality check of R84, and building a machine (R14). -/

namespace Sys2Proof.Machine

/-- The result of running a command. -/
abbrev Answer := Host.Outcome State Fault Refusal

/-- `STATUS.BUSY <- 0`: the end of every completion (R201). -/
def State.finish (s : State) : State := { s with status := s.status.setBusy false }

/-- `raise F` (R17): set the sticky bit and nothing else. There is no trap and nothing is saved (R170, R182). -/
def State.raise (f : FaultBit) (s : State) : State := { s with status := s.status.set f }

/-- A command that faults: it sets its bit, completes, and makes no other change (R171). -/
def State.fail (f : FaultBit) (s : State) : State := (s.raise f).finish

/-- `RESULT <- zext_64(v)` (R23). -/
def State.setResult (v : Nat) (s : State) : State := { s with result := zext64 v }

/-- `HASH <- zext_64(v)` (R24). -/
def State.setHash (v : Nat) (s : State) : State := { s with hash := zext64 v }

/-- The window becomes `w`, and WLEN its length (R26). -/
def State.setWindow (w : List Word) (s : State) : State := { s with window := w }

/-- The power table's valid entries become `t`, and PLEN their number (R27, R28). -/
def State.setTable (t : List Word) (s : State) : State := { s with pt := t }

/-- HASH as a number. -/
def hashOf (s : State) : Nat := s.hash.toNat

/-- `PT[k]` as a number (R28). -/
def powerOf (s : State) (k : Nat) : Nat := (tableEntry s.draws s.pt k).toNat

/-- `grow()` (R133), run after the push: nothing in ROM mode, else the loop until `PLEN = WLEN + 1`. -/
def State.grow (s : State) : State :=
  match s.cfg.ptMode with
  | .rom   => s
  | .grown => s.setTable (growTable s.cfg s.draws (s.window.length + 1 - s.pt.length) s.pt)

/-- Run a command's body if R84 finds it legal; else it raises ILL and changes nothing else (R173, R174). -/
def ifLegal (i : Instr) (s : State) (body : State → State) : Answer :=
  match checkCommand s.cfg s.la i with
  | some _ => .next (s.fail .ill)
  | none   => .next (body s)

/-- Building an instance: an illegal parameter set is refused (R14), a legal one is the reset state of R190. -/
def State.build (c : Config) : Answer :=
  if c.Legal then .next (State.init c) else .refused .illegalConfig

end Sys2Proof.Machine
end

