-- ==== Sys2Proof/Machine/Bus.lean ====
section
/-! DEFINITION. The bus: the register map (R57), the semantics of an access (R54, R58 to R62, R202), the moves of the
request and response channels (R51, R52), the reset move (R190 to R192), and the output pins (R50). -/

namespace Sys2Proof.Machine

/-- The registers of the register map (R57). -/
inductive Reg where
  | cmd
  | opa
  | opb
  | result
  | hash
  | wlen
  | plen
  | status
  | modr
  | baser
  | capr
  | config
  | widx
  | wdata
  deriving DecidableEq, Repr

/-- The register map (R57): offset and register, row by row. -/
def registerMap : List (BitVec 8 × Reg) :=
  [ (0x00#8, .cmd), (0x08#8, .opa), (0x10#8, .opb), (0x18#8, .result), (0x20#8, .hash), (0x28#8, .wlen), (0x30#8, .plen) ]
  ++ [ (0x38#8, .status), (0x40#8, .modr), (0x48#8, .baser), (0x50#8, .capr), (0x58#8, .config), (0x60#8, .widx),
       (0x68#8, .wdata) ]

/-- The register at an offset, if there is one (R57). -/
def Reg.ofOffset (a : BitVec 8) : Option Reg := registerMap.lookup a

/-- The offset of a register (R57). -/
def Reg.offset (r : Reg) : BitVec 8 :=
  match r with
  | .cmd    => 0x00#8
  | .opa    => 0x08#8
  | .opb    => 0x10#8
  | .result => 0x18#8
  | .hash   => 0x20#8
  | .wlen   => 0x28#8
  | .plen   => 0x30#8
  | .status => 0x38#8
  | .modr   => 0x40#8
  | .baser  => 0x48#8
  | .capr   => 0x50#8
  | .config => 0x58#8
  | .widx   => 0x60#8
  | .wdata  => 0x68#8

/-- The 64-bit view of a count; what it shows for a count that does not fit is left open (log entry 13). -/
def countView (n : Nat) : Word := if n < 2 ^ 64 then zext64 n else Config.freeCount n

/-- The bit length of a number. -/
def bitLength (n : Nat) : Nat := if n = 0 then 0 else Nat.log2 n + 1

/-- RES_W: the bit length of `MOD - 1`, at least 1 (R8). -/
def resW (c : Config) : Nat := max 1 (bitLength (c.mod - 1))

/-- Field PT_MODE of CONFIG (R33). -/
def ptModeBit (c : Config) : BitVec 1 :=
  match c.ptMode with
  | .grown => 0#1
  | .rom   => 1#1

/-- Field VARIANT of CONFIG (R33). -/
def variantBit (c : Config) : BitVec 1 :=
  match c.variant with
  | .full    => 0#1
  | .reduced => 1#1

/-- CONFIG (R33): ELEM_W in 7:0, RES_W in 15:8, PT_MODE in bit 16, VARIANT in bit 17, zeros above. -/
def configWord (c : Config) : Word :=
  (0#46) ++ (variantBit c ++ (ptModeBit c ++ (BitVec.ofNat 8 (resW c) ++ BitVec.ofNat 8 c.elemW)))

/-- WDATA when no command is in flight (R36): the element at WIDX, or 0 at and beyond WLEN. -/
def wdataView (s : State) : Word := s.window.getD s.widx.toNat 0#64

/-- One free value has been drawn. -/
def State.drawn (s : State) : State := { s with draws := s.draws + 1 }

/-- A read of a register that a command may be writing: a free value while one is in flight (R202), else `v`. -/
def readSettled (v : Word) (s : State) : State × Word :=
  if s.status.busy then (s.drawn, Config.freeRead s.draws) else (s, v)

/-- A read of a register (R58, R61, R202). -/
def readReg (r : Reg) (s : State) : State × Word :=
  match r with
  | .cmd    => (s, 0#64)
  | .opa    => (s, s.opa)
  | .opb    => (s, s.opb)
  | .result => readSettled s.result s
  | .hash   => readSettled s.hash s
  | .wlen   => readSettled (countView s.window.length) s
  | .plen   => readSettled (countView s.pt.length) s
  | .status => (s, s.status.word)
  | .modr   => (s, zext64 s.cfg.mod)
  | .baser  => (s, zext64 s.cfg.base)
  | .capr   => (s, countView s.cfg.winCap)
  | .config => (s, configWord s.cfg)
  | .widx   => (s, s.widx)
  | .wdata  => readSettled (wdataView s) s

/-- Acceptance of a command word (R62, R34): the latches are filled and one command is in flight; its delay is a free
value (R201). -/
def State.accept (v : Word) (s : State) : State :=
  { s with lop := v, la := s.opa, lb := s.opb, status := s.status.setBusy true,
           engineDelay := Config.freeEngineDelay s.draws, draws := s.draws + 1 }

/-- A write to CMD (R62): accepted, or discarded with OVR while a command is in flight (R177). -/
def writeCmd (v : Word) (s : State) : State :=
  if s.status.busy then s.raise .ovr else s.accept v

/-- A write to a register (R59, R62); none where the register is read-only (R60). -/
def writeReg (r : Reg) (v : Word) (s : State) : Option State :=
  match r with
  | .cmd    => some (writeCmd v s)
  | .opa    => some { s with opa := v }
  | .opb    => some { s with opb := v }
  | .result => none
  | .hash   => none
  | .wlen   => none
  | .plen   => none
  | .status => none
  | .modr   => none
  | .baser  => none
  | .capr   => none
  | .config => none
  | .widx   => some { s with widx := v }
  | .wdata  => none

/-- The response of a refused access (R60). -/
def busError : Response := { rdata := 0#64, err := true }

/-- The response of an access that is performed (R52). -/
def okResponse (v : Word) : Response := { rdata := v, err := false }

/-- The only shape the block performs: 64 bits at a multiple of 8 (R54). -/
def wellShaped (r : Request) : Bool := r.size == 3#2 && r.addr.extractLsb' 0 3 == 0#3

/-- One access, performed: the state it leaves and its response (R54, R57 to R62). When it is performed is `transfer`'s
choice (log entry 21). -/
def perform (r : Request) (s : State) : State × Response :=
  if wellShaped r = false then (s, busError)
  else match Reg.ofOffset r.addr with
    | none => (s, busError)
    | some reg =>
      if r.we then
        match writeReg reg r.wdata s with
        | none   => (s, busError)
        | some t => (t, okResponse 0#64)
      else ((readReg reg s).1, okResponse (readReg reg s).2)

/-- The request of a 64-bit read at an offset (R89). -/
def readAt (a : BitVec 8) : Request := { we := false, addr := a, size := 3#2, wdata := 0#64 }

/-- The request of a 64-bit write at an offset (R89). -/
def writeAt (a : BitVec 8) (v : Word) : Request := { we := true, addr := a, size := 3#2, wdata := v }

/-- The request of a read of a register (R89). -/
def readRequest (r : Reg) : Request := readAt r.offset

/-- The request of a write to a register (R89). -/
def writeRequest (r : Reg) (v : Word) : Request := writeAt r.offset v

/-- The access a host statement makes: its own, or `wait`'s read of STATUS (R92). -/
def HostOp.request (op : HostOp) : Request :=
  match op with
  | .access r => r
  | .wait     => readRequest .status

/-- The host's position once a response has arrived (R31): the next statement; `wait` repeats while bit 0 of the STATUS
it read is 1 (R92). -/
def pcAfterResponse (s : State) (rsp : Response) : Nat :=
  match s.host[s.pc]? with
  | some (.access _) => s.pc + 1
  | some .wait       => if rsp.rdata.getLsbD 0 then s.pc else s.pc + 1
  | none             => s.pc

/-- The host's position once reset has lost its outstanding access (R191): an access is over, `wait` reads again.
DESIGN CHOICE (log entry 10). -/
def pcAfterLoss (s : State) : Nat :=
  match s.host[s.pc]? with
  | some (.access _) => s.pc + 1
  | some .wait       => s.pc
  | none             => s.pc

/-- A request is transferred (R51); its response will be given after a free delay (R52).
DESIGN CHOICE (log entry 21): it is performed at its transfer; R52 and R64 give the order of performing, not the moment
between the transfer and the response. -/
def transfer (r : Request) (s : State) : State :=
  { (perform r s).1 with outstanding := some (perform r s).2,
                         rspDelay := Config.freeResponseDelay (perform r s).1.draws,
                         draws := (perform r s).1.draws + 1 }

/-- The outstanding response is given to the host (R52); the block may then stall for a free delay (R51). -/
def deliver (rsp : Response) (s : State) : State :=
  { s with outstanding := none, responses := s.responses ++ [rsp], pc := pcAfterResponse s rsp,
           reqStall := Config.freeStall s.draws, draws := s.draws + 1 }

/-- One move less before the platform's next reset edge. -/
def rstTick (l : List Nat) : List Nat :=
  match l with
  | []     => []
  | n :: r => (n - 1) :: r

/-- Time passes by one move: the engine's delay, the stall of `req_ready` and the time to the next reset go down, whatever
the host does (R201, R51, R192). -/
def State.tick (s : State) : State :=
  { s with engineDelay := s.engineDelay - 1, reqStall := s.reqStall - 1, rst := rstTick s.rst }

/-- One move of the bus (R51, R52): a pending response is given or waited for; else the host's next access is
transferred, or waits for `req_ready`; with no access left the block is idle and holds its state (R188), while a stall
left from the last response still ends (R51).
DESIGN CHOICE (log entry 22): a host with a statement left presents its request at every move with no response pending, so
the access is transferred as soon as the stall is over; R18 and R71 fix the order of its accesses, not when it makes one. -/
def busMove (s : State) : State :=
  match s.outstanding with
  | some rsp => if s.rspDelay = 0 then deliver rsp s.tick else { s.tick with rspDelay := s.rspDelay - 1 }
  | none =>
    match s.host[s.pc]? with
    | none    => s.tick
    | some op => if s.reqStall = 0 then transfer op.request s.tick else s.tick

/-- `rst_n = 0` at this move (R190). -/
def resetDue (s : State) : Bool := s.rst.head? == some 0

/-- The command in flight completes at this move (R201). -/
def completionDue (s : State) : Bool := s.status.busy && s.engineDelay == 0

/-- A rising edge with `rst_n = 0` (R190, R191): every piece of the block's state takes its reset value, and the command
in flight and the outstanding access are lost; the host and the platform go on. -/
def resetMove (s : State) : State :=
  { State.init s.cfg with
    rst := s.rst.tail
    host := s.host
    responses := s.responses
    pc := if s.outstanding.isSome then pcAfterLoss s else s.pc
    reqStall := Config.freeStall s.draws
    draws := s.draws + 1 }

/-- The output ports (R50); `rsp` is the response in the cycle where `rsp_valid = 1`, none where it is 0. -/
structure Pins where
  reqReady : Bool
  rsp      : Option Response
  busy     : Bool
  err      : Bool
  deriving DecidableEq, Repr

/-- The outputs in a state (R50 to R52); all 0 during reset (R190).
DESIGN CHOICE (log entry 11): before the first reset, where R193 leaves the outputs open, they are read from the state in
the same way.
DESIGN CHOICE (log entry 23): the outputs belong to the state and not to the step taken from it; a step that is a completion
is no bus cycle, so `req_ready = 1` or `rsp_valid = 1` shown before it is shown again, and acted on, at the next move of the
bus. -/
def State.pins (s : State) : Pins :=
  if resetDue s then { reqReady := false, rsp := none, busy := false, err := false }
  else { reqReady := s.outstanding.isNone && s.reqStall == 0,
         rsp := if s.rspDelay = 0 then s.outstanding else none,
         busy := s.status.busy, err := s.status.err }

/-- Byte `i` of an 8-byte slot (R55): bits `8i+7 : 8i` of the register. -/
def byteLane (v : Word) (i : Nat) : BitVec 8 := v.extractLsb' (8 * i) 8

/-- The platform address at which the host sees an offset (R13, R53). -/
def platformAddress (c : Config) (a : BitVec 8) : Nat := c.baseAddr + a.toNat

/-- The offset the block sees for a platform address inside its 256-byte window; no access of the block outside it (R53). -/
def offsetOf (c : Config) (addr : Nat) : Option (BitVec 8) :=
  if c.baseAddr ≤ addr ∧ addr < c.baseAddr + 256 then some (BitVec.ofNat 8 (addr - c.baseAddr)) else none

end Sys2Proof.Machine
end

