-- ==== Sys2Proof/Machine/Arith.lean ====
section
/-! DEFINITION. The modular arithmetic commands MRED, MADD, MSUB, MMUL, MDIV, MINV (40_modular_arith.md). -/

namespace Sys2Proof.Machine

/-- MRED (R102). -/
def mredBody (s : State) : State :=
  (s.setResult (operandA s)).finish

/-- MRED, checked as R84 says. -/
def execMred (s : State) : Answer := ifLegal .mred s mredBody

/-- MADD (R103). -/
def maddBody (s : State) : State :=
  (s.setResult (modAdd s.cfg (operandA s) (operandB s))).finish

/-- MADD, checked as R84 says. -/
def execMadd (s : State) : Answer := ifLegal .madd s maddBody

/-- MSUB (R104). -/
def msubBody (s : State) : State :=
  (s.setResult (modSub s.cfg (operandA s) (operandB s))).finish

/-- MSUB, checked as R84 says. -/
def execMsub (s : State) : Answer := ifLegal .msub s msubBody

/-- MMUL (R105). -/
def mmulBody (s : State) : State :=
  (s.setResult (modMul s.cfg (operandA s) (operandB s))).finish

/-- MMUL, checked as R84 says. -/
def execMmul (s : State) : Answer := ifLegal .mmul s mmulBody

/-- MDIV (R109): DZ when the divisor reduces to zero, whatever the dividend (R175). -/
def mdivBody (s : State) : State :=
  if operandB s = 0 then s.fail .dz
  else (s.setResult (modMul s.cfg (operandA s) (modInv s.cfg (operandB s)))).finish

/-- MDIV, checked as R84 says. -/
def execMdiv (s : State) : Answer := ifLegal .mdiv s mdivBody

/-- MINV (R108): DZ when the operand reduces to zero (R175). -/
def minvBody (s : State) : State :=
  if operandA s = 0 then s.fail .dz
  else (s.setResult (modInv s.cfg (operandA s))).finish

/-- MINV, checked as R84 says. -/
def execMinv (s : State) : Answer := ifLegal .minv s minvBody

end Sys2Proof.Machine
end

