-- ==== Sys2Proof/Machine/Control.lean ====
section
/-! DEFINITION. The control commands NOP and CLEAR (42_control.md). -/

namespace Sys2Proof.Machine

/-- NOP (R160): it completes and changes no other state. -/
def nopBody (s : State) : State :=
  s.finish

/-- NOP, checked as R84 says. -/
def execNop (s : State) : Answer := ifLegal .nop s nopBody

/-- The power table after CLEAR (R162): one entry `PT[0] = 1` (GROWN), unchanged (ROM). -/
def clearedTable (s : State) : List Word :=
  match s.cfg.ptMode with
  | .grown => [1#64]
  | .rom   => s.pt

/-- CLEAR (R162): the empty window, its hash 0, and the table of a new instance. -/
def clearBody (s : State) : State :=
  (((s.setWindow []).setHash 0).setTable (clearedTable s)).finish

/-- CLEAR, checked as R84 says. -/
def execClear (s : State) : Answer := ifLegal .clear s clearBody

end Sys2Proof.Machine
end

