-- ==== Sys2Proof/Machine/Rolling.lean ====
section
/-! DEFINITION. The rolling-hash commands APPB, REMF, REMB, APPF (41_rolling_hash.md). -/

namespace Sys2Proof.Machine

/-- APPB (R134): `HASH <- (HASH · BASE + red(x)) mod MOD`, push at the back, grow; OVF when full (R176). -/
def appbBody (s : State) : State :=
  if s.window.length = s.cfg.winCap then s.fail .ovf
  else
    let x := elementOf s.cfg s.la
    ((s.setHash ((hashOf s * s.cfg.base + red s.cfg x) % s.cfg.mod)).setWindow (s.window ++ [x])).grow.finish

/-- APPB, checked as R84 says. -/
def execAppb (s : State) : Answer := ifLegal .appb s appbBody

/-- REMF (R136): subtract the front element's term, weight `PT[len - 1]`, and pop it; a no-op when empty (R131). -/
def remfBody (s : State) : State :=
  match s.window with
  | [] => s.finish
  | x :: rest =>
    let term := modMul s.cfg (red s.cfg x) (powerOf s (s.window.length - 1))
    ((s.setHash (modSub s.cfg (hashOf s) term)).setWindow rest).finish

/-- REMF, checked as R84 says. -/
def execRemf (s : State) : Answer := ifLegal .remf s remfBody

/-- REMB (R138): subtract the back element, divide by BASE, and pop it; a no-op when empty (R131). -/
def rembBody (s : State) : State :=
  match s.window.getLast? with
  | none => s.finish
  | some x =>
    let t := modSub s.cfg (hashOf s) (red s.cfg x)
    ((s.setHash (modMul s.cfg t (modInv s.cfg s.cfg.base))).setWindow s.window.dropLast).finish

/-- REMB, checked as R84 says. -/
def execRemb (s : State) : Answer := ifLegal .remb s rembBody

/-- APPF (R140): add the new front element's term, weight `PT[len]`, push it, grow; OVF when full (R176). -/
def appfBody (s : State) : State :=
  if s.window.length = s.cfg.winCap then s.fail .ovf
  else
    let x := elementOf s.cfg s.la
    let term := modMul s.cfg (red s.cfg x) (powerOf s s.window.length)
    ((s.setHash (modAdd s.cfg (hashOf s) term)).setWindow (x :: s.window)).grow.finish

/-- APPF, checked as R84 says. -/
def execAppf (s : State) : Answer := ifLegal .appf s appfBody

end Sys2Proof.Machine
end

