-- ==== Sys2Proof/Machine/Dispatch.lean ====
section
/-! DEFINITION. The completion of each command (R201): one arm per constructor of Instr. -/

namespace Sys2Proof.Machine

def exec (i : Instr) (s : State) : Host.Outcome State Fault Refusal :=
  match i with
  | .nop => Sys2Proof.Machine.execNop s
  | .mred => Sys2Proof.Machine.execMred s
  | .madd => Sys2Proof.Machine.execMadd s
  | .msub => Sys2Proof.Machine.execMsub s
  | .mmul => Sys2Proof.Machine.execMmul s
  | .mdiv => Sys2Proof.Machine.execMdiv s
  | .minv => Sys2Proof.Machine.execMinv s
  | .appb => Sys2Proof.Machine.execAppb s
  | .remf => Sys2Proof.Machine.execRemf s
  | .remb => Sys2Proof.Machine.execRemb s
  | .appf => Sys2Proof.Machine.execAppf s
  | .clear => Sys2Proof.Machine.execClear s

end Sys2Proof.Machine
end

