-- ==== Sys2Proof/Machine/Engine.lean ====
section
/-! DEFINITION. The command engine's completion step (R201), and placing a command for it. -/

namespace Sys2Proof.Machine

/-- The completion step (R201): decode LOP (R84), perform the command's rule or raise ILL (R173), and clear BUSY. -/
def complete (s : State) : Answer :=
  match decode s.cfg s.lop s.la with
  | .error _ => .next (s.fail .ill)
  | .ok i    => exec i s

/-- A reset due at this move is put off by one move. -/
def rstPutOff (l : List Nat) : List Nat :=
  match l with
  | 0 :: r => 1 :: r
  | r      => r

/-- The command word `v` is in flight, with OPA and OPB latched (R34), and completes at the very next move.
DESIGN CHOICE (log entry 9): the delay is 0, a reset due at this move is put off by one, and a state before the first reset
counts as reset from here on, since R193 gives no command a meaning there. -/
def State.withCommand (v : Word) (s : State) : State :=
  { s with lop := v, la := s.opa, lb := s.opb, status := s.status.setBusy true, engineDelay := 0, wasReset := true,
           rst := rstPutOff s.rst }

end Sys2Proof.Machine
end

