-- ==== Sys2Proof/Machine/HostProgram.lean ====
section
/-! DEFINITION. The host's statements and pseudo-instructions (30_encoding.md R89 to R95), expanded to the list of bus
accesses that is a program's machine form, and giving a program to the host. -/

namespace Sys2Proof.Machine

/-- The operand `<reg>` of a host statement: a register's name, or a hexadecimal offset, which need be no register's (R89). -/
inductive RegOperand where
  | name (r : Reg)
  | offset (a : BitVec 8)
  deriving DecidableEq, Repr

/-- The offset an operand stands for (R89). -/
def RegOperand.addr (o : RegOperand) : BitVec 8 :=
  match o with
  | .name r   => r.offset
  | .offset a => a

/-- A character literal as a value: its Unicode scalar value (R89). -/
def asmChar (c : Char) : Word := BitVec.ofNat 64 c.toNat

/-- `wr <reg>, <value>` (R89). -/
def asmWr (o : RegOperand) (v : Word) : HostOp := .access (writeAt o.addr v)

/-- `rd <reg>` (R89). -/
def asmRd (o : RegOperand) : HostOp := .access (readAt o.addr)

/-- `wr CMD, <word> ; wait` (R90). -/
def asmCommand (i : Instr) : List HostOp := [asmWr (.name .cmd) (encode i), .wait]

/-- A command with the operand `a` (R90): `mred`, `minv`, `appb`, `appf`. -/
def asmUnary (i : Instr) (a : Word) : List HostOp := asmWr (.name .opa) a :: asmCommand i

/-- A command with the operands `a` and `b` (R90): `madd`, `msub`, `mmul`, `mdiv`. -/
def asmBinary (i : Instr) (a b : Word) : List HostOp :=
  asmWr (.name .opa) a :: asmWr (.name .opb) b :: asmCommand i

/-- The mnemonics of R90; an operand the mnemonic does not have is not written (R91). -/
def asmMnemonic (i : Instr) (a b : Word) : List HostOp :=
  match i with
  | .nop   => asmCommand .nop
  | .mred  => asmUnary .mred a
  | .madd  => asmBinary .madd a b
  | .msub  => asmBinary .msub a b
  | .mmul  => asmBinary .mmul a b
  | .mdiv  => asmBinary .mdiv a b
  | .minv  => asmUnary .minv a
  | .appb  => asmUnary .appb a
  | .remf  => asmCommand .remf
  | .remb  => asmCommand .remb
  | .appf  => asmUnary .appf a
  | .clear => asmCommand .clear

/-- `init s` (R93): `clear`, then `appb` of each element in order. -/
def asmInit (xs : List Word) : List HostOp := asmCommand .clear ++ xs.flatMap (asmUnary .appb)

/-- `init` of a string literal (R93). -/
def asmInitText (s : String) : List HostOp := asmInit (s.toList.map asmChar)

/-- `slide x` (R94): `remf`, then `appb x`. -/
def asmSlide (x : Word) : List HostOp := asmCommand .remf ++ asmUnary .appb x

/-- The host gets a program and stands before its first access (R31, R95). -/
def State.withHostProgram (p : List HostOp) (s : State) : State := { s with host := p, pc := 0, responses := [] }

end Sys2Proof.Machine
end

