-- ==== Sys2Proof/Machine/Step.lean ====
section
/-! DEFINITION. One step of the machine: a reset edge, else a due completion, else one move of the bus (R18). -/

namespace Sys2Proof.Machine

/-- One step. A reset edge comes first (R190, R191); before the first reset nothing is specified (R193); a due completion
is a step of the engine alone (R201); else the bus moves (R51, R52). -/
def step (s : State) : Host.Outcome State Fault Refusal :=
  if resetDue s then .next (resetMove s)
  else if s.wasReset = false then .fault .notReset
  else if completionDue s then complete s
  else .next (busMove s)

/-- `s` with the command word `w` in flight and due, so that the very next step decodes and performs it; what this sets
beside the word is `State.withCommand`'s choice (log entry 9). -/
def State.withFetchWord (s : State) (nbits w : Nat) : State :=
  s.withCommand (BitVec.ofNat 64 (w % 2 ^ nbits))

end Sys2Proof.Machine
end

