-- ==== Sys2Proof/Safety.lean ====
section
/-! DEFINITION. What a safe state and a good run are: the hash and power-table invariants (R25, R28, R132) and the end of a
run (R209), in the terms the statements use. -/

namespace Sys2Proof

open Sys2Proof.Machine

/-- The polynomial of a window (R25): `Σ win[i] · BASE^(len-1-i)` for `i` from 0 to `len - 1`. -/
def windowSum (c : Config) (w : List Word) : Nat :=
  ∑ i ∈ Finset.range w.length, (w.getD i 0#64).toNat * c.base ^ (w.length - 1 - i)

/-- The hash of a window (R25). -/
def windowHash (c : Config) (w : List Word) : Nat := windowSum c w % c.mod

/-- What holds of the block after reset and after every step (R14, R23 to R28, R132). The hash and the table are changed at
completions only, so it holds while a command is in flight too. -/
structure BlockInv (s : State) : Prop where
  /-- the parameter set is legal (R14) -/
  legal : s.cfg.Legal
  /-- `RESULT < MOD` (R23) -/
  result_lt : s.result.toNat < s.cfg.mod
  /-- the hash invariant (R25) -/
  hash_eq : s.hash.toNat = windowHash s.cfg s.window
  /-- `WLEN ≤ WIN_CAP` (R26) -/
  window_le : s.window.length ≤ s.cfg.winCap
  /-- every element has ELEM_W bits (R26) -/
  element_lt : ∀ x ∈ s.window, x.toNat < 2 ^ s.cfg.elemW
  /-- `PT[k] = BASE^k mod MOD` for every `k < PLEN` (R28) -/
  table_eq : ∀ k, k < s.pt.length → s.pt[k]? = some (powerEntry s.cfg k)
  /-- `WLEN + 1 ≤ PLEN` (R28) -/
  table_ge : s.window.length + 1 ≤ s.pt.length
  /-- `PLEN ≤ WIN_CAP + 1` (R28) -/
  table_le : s.pt.length ≤ s.cfg.winCap + 1
  /-- in ROM mode `PLEN = WIN_CAP + 1` (R27) -/
  table_rom : s.cfg.ptMode = .rom → s.pt.length = s.cfg.winCap + 1

/-- A host program's run has ended (R209): no access is left, every response has arrived, and BUSY is 0. -/
def RunEnded (s : State) : Prop :=
  s.host.length ≤ s.pc ∧ s.outstanding = none ∧ s.status.busy = false

/-- The run has ended well (R209, and "final" in R170 and R179): no fault bit is set and no access got a bus error.
DESIGN CHOICE (log entry 15): the predicate reads the end state alone, so it can also hold after a run in which reset was
asserted after the first access, of which R209 says nothing. -/
def EndsWell (s : State) : Prop :=
  RunEnded s ∧ s.status.err = false ∧ ∀ rsp ∈ s.responses, rsp.err = false

/-- What accesses of the host can change is the same in both: OPA, OPB, WIDX, STATUS and the latches (R37, R59, R62). -/
def SameHostSide (s t : State) : Prop :=
  t.opa = s.opa ∧ t.opb = s.opb ∧ t.widx = s.widx ∧ t.status = s.status ∧ t.lop = s.lop ∧ t.la = s.la ∧ t.lb = s.lb

/-- `t` differs from `s` at most in STATUS and in the latches, whose values R34 leaves unspecified once no command is in
flight. -/
def SameButStatus (s t : State) : Prop :=
  t = { s with status := t.status, lop := t.lop, la := t.la, lb := t.lb }

/-- `t` differs from `s` at most in RESULT, STATUS and the latches. -/
def SameButResult (s t : State) : Prop :=
  t = { s with result := t.result, status := t.status, lop := t.lop, la := t.la, lb := t.lb }

/-- `t` differs from `s` at most in HASH, the window, STATUS and the latches. -/
def SameButWindow (s t : State) : Prop :=
  t = { s with hash := t.hash, window := t.window, status := t.status, lop := t.lop, la := t.la, lb := t.lb }

/-- `t` differs from `s` at most in HASH, the window, the power table, STATUS and the latches. -/
def SameButCore (s t : State) : Prop :=
  t = { s with hash := t.hash, window := t.window, pt := t.pt, status := t.status, lop := t.lop, la := t.la, lb := t.lb }

/-- Completed without a fault: BUSY is 0 and every fault bit is as it was (R201). -/
def CompletedClean (s t : State) : Prop := t.status = s.status.setBusy false

/-- Completed with the fault `f`: its bit is set, BUSY is 0, and nothing else changed (R171). -/
def FaultedWith (f : FaultBit) (s t : State) : Prop :=
  SameButStatus s t ∧ t.status = (s.status.set f).setBusy false

/-- The power table after a push that makes the window `len` long, from a table with at least `len` entries (R133): in
GROWN mode one more entry, `PT[PLEN - 1] · BASE mod MOD`, if `PLEN < len + 1`. -/
def tableAfterPush (c : Config) (len : Nat) (pt : List Word) : List Word :=
  if c.ptMode = .grown ∧ pt.length < len + 1 then pt ++ [zext64 ((pt.getLastD 0#64).toNat * c.base % c.mod)] else pt

/-- What RESULT holds after the command `i` completes with LA = `a` and LB = `b`. -/
def resultAfter (i : Instr) (s : State) (a b : Word) : Option Word :=
  match exec i { s with la := a, lb := b } with
  | .next t    => some t.result
  | .fault _   => none
  | .refused _ => none

/-- The state after the command `i` completes with LA = `a`. -/
def afterCommand (i : Instr) (a : Word) (s : State) : State :=
  match exec i { s with la := a } with
  | .next t    => t
  | .fault _   => s
  | .refused _ => s

/-- `appb` of each element in order. -/
def appendAll (xs : List Word) (s : State) : State := xs.foldl (fun s x => afterCommand .appb x s) s

/-- `init` (R93): `clear`, then `appb` of each element in order. -/
def initAll (xs : List Word) (s : State) : State := appendAll xs (afterCommand .clear 0#64 s)

/-- `slide` (R94): `remf`, then `appb`. -/
def slideTo (x : Word) (s : State) : State := afterCommand .appb x (afterCommand .remf 0#64 s)

end Sys2Proof
end

