-- ==== Sys2Proof/WellFormed.lean ====
section
/-! DEFINITION. When a command is well formed on a given instance with a given operand latch: its variant has it (R86)
and its element fits (R88). A command has no fields of its own, so there is nothing else to check. -/

namespace Sys2Proof

/-- The command is legal on an instance with parameters `c` when LA is `la` (R84). -/
abbrev Instr.WellFormed (c : Config) (la : Word) (i : Instr) : Prop :=
  variantAdmits c i = true ∧ elementInRange c la i = true

end Sys2Proof
end

