-- ==== Sys2Proof/Certificates/Slice0/Obligations.lean ====
section
/-! DEFINITION. The statements for the provers, from the numbered rules of spec/. -/

open Sys2Proof Sys2Proof.Machine

-- Encoding (30_encoding.md)

/-- The words of R83's table decode to their commands. -/
def Obligations.TableWordsDecode : Prop :=
  decodeWord 0x00#64 = .ok .nop ∧ decodeWord 0x01#64 = .ok .mred ∧ decodeWord 0x02#64 = .ok .madd ∧
  decodeWord 0x03#64 = .ok .msub ∧ decodeWord 0x04#64 = .ok .mmul ∧ decodeWord 0x05#64 = .ok .mdiv ∧
  decodeWord 0x06#64 = .ok .minv ∧ decodeWord 0x10#64 = .ok .appb ∧ decodeWord 0x11#64 = .ok .remf ∧
  decodeWord 0x12#64 = .ok .remb ∧ decodeWord 0x13#64 = .ok .appf ∧ decodeWord 0x1F#64 = .ok .clear

/-- Decode and encode agree, on every 64-bit word and every instance: a word decodes to a command exactly when it is that
command's word and the command is well formed there (R83 to R88). -/
def Obligations.DecodeAcceptsExactlyWellFormedWords : Prop :=
  ∀ (c : Config) (lop la : Word) (i : Instr), decode c lop la = .ok i ↔ lop = encode i ∧ i.WellFormed c la

/-- R85, at the completion of the command. -/
def Obligations.ReservedBitsRaiseIll : Prop :=
  ∀ s : State, s.lop.extractLsb' 8 56 ≠ 0#56 → ∃ t, complete s = .next t ∧ FaultedWith .ill s t

/-- R86 and R173, at the completion of the command; with `ReservedBitsRaiseIll` the causes of R173 are whole. -/
def Obligations.UnassignedOpcodesRaiseIll : Prop :=
  ∀ s : State,
    (let op := (s.lop.extractLsb' 0 8).toNat
     (s.lop.extractLsb' 8 56 ≠ 0#56) ∨
     (0x07 ≤ op ∧ op ≤ 0x0F) ∨ (0x14 ≤ op ∧ op ≤ 0x1E) ∨ 0x20 ≤ op ∨
     (s.cfg.variant = .reduced ∧ (op = 0x05 ∨ op = 0x06 ∨ op = 0x12 ∨ op = 0x13))) →
    ∃ t, complete s = .next t ∧ FaultedWith .ill s t

/-- R88 and R174: an element that does not fit is ILL at the completion, and in the command's own meaning, and nothing
changes; one that fits is taken whole, and with
ELEM_W = 64 every LA fits. -/
def Obligations.ElementRangeIsChecked : Prop :=
  ∀ (i : Instr) (s : State), i = .appb ∨ i = .appf →
    (s.cfg.elemW < 64 → s.la >>> s.cfg.elemW ≠ 0#64 →
      (s.lop = encode i → ∃ t, complete s = .next t ∧ FaultedWith .ill s t) ∧
      ∃ t, exec i s = .next t ∧ FaultedWith .ill s t) ∧
    (s.cfg.elemW < 64 → s.la >>> s.cfg.elemW = 0#64 → elementInRange s.cfg s.la i = true ∧ elementOf s.cfg s.la = s.la) ∧
    (s.cfg.elemW = 64 → elementInRange s.cfg s.la i = true ∧ elementOf s.cfg s.la = s.la)

-- Modular arithmetic (40_modular_arith.md)

/-- R102. -/
def Obligations.MredReduces : Prop :=
  decodeWord 0x0000000000000001#64 = .ok .mred ∧
  ∀ s : State, s.cfg.Legal → ∃ t, exec .mred s = .next t ∧ t.result.toNat = s.la.toNat % s.cfg.mod ∧
    SameButResult s t ∧ CompletedClean s t

/-- R103. -/
def Obligations.MaddAdds : Prop :=
  decodeWord 0x0000000000000002#64 = .ok .madd ∧
  ∀ s : State, s.cfg.Legal → ∃ t, exec .madd s = .next t ∧
    t.result.toNat = (s.la.toNat % s.cfg.mod + s.lb.toNat % s.cfg.mod) % s.cfg.mod ∧ SameButResult s t ∧ CompletedClean s t

/-- R104, with the source's own form of the value: the difference of the residues, as integers, mod MOD. -/
def Obligations.MsubSubtracts : Prop :=
  decodeWord 0x0000000000000003#64 = .ok .msub ∧
  ∀ s : State, s.cfg.Legal → ∃ t, exec .msub s = .next t ∧
    t.result.toNat = (s.la.toNat % s.cfg.mod + s.cfg.mod - s.lb.toNat % s.cfg.mod) % s.cfg.mod ∧
    (t.result.toNat : Int) = (((s.la.toNat % s.cfg.mod : Nat) : Int) - ((s.lb.toNat % s.cfg.mod : Nat) : Int)) % (s.cfg.mod : Int) ∧
    SameButResult s t ∧ CompletedClean s t

/-- R105; the product is the exact one of the reduced operands. -/
def Obligations.MmulMultiplies : Prop :=
  decodeWord 0x0000000000000004#64 = .ok .mmul ∧
  ∀ s : State, s.cfg.Legal → ∃ t, exec .mmul s = .next t ∧
    t.result.toNat = (s.la.toNat % s.cfg.mod) * (s.lb.toNat % s.cfg.mod) % s.cfg.mod ∧
    SameButResult s t ∧ CompletedClean s t

/-- R106: the loop returns `x^e mod MOD`. -/
def Obligations.ModpowIsPower : Prop :=
  ∀ (c : Config) (x e : Nat), 2 ≤ c.mod → x < c.mod → modpow c x e = x ^ e % c.mod

/-- R107: the modular inverse is the unique residue that multiplies to one. -/
def Obligations.InverseIsUniqueInverse : Prop :=
  ∀ (c : Config) (x : Nat), c.Legal → 0 < x → x < c.mod →
    modInv c x = modpow c x (c.mod - 2) ∧ modInv c x < c.mod ∧ x * modInv c x % c.mod = 1 ∧
    ∀ y, y < c.mod → x * y % c.mod = 1 → y = modInv c x

/-- R108: DZ for the zero residue, else the inverse; ILL under REDUCED. -/
def Obligations.MinvInverts : Prop :=
  decodeWord 0x0000000000000006#64 = .ok .minv ∧
  ∀ s : State, s.cfg.Legal →
    (s.cfg.variant = .full → s.la.toNat % s.cfg.mod = 0 → ∃ t, exec .minv s = .next t ∧ FaultedWith .dz s t) ∧
    (s.cfg.variant = .full → s.la.toNat % s.cfg.mod ≠ 0 → ∃ t, exec .minv s = .next t ∧
      t.result.toNat = modpow s.cfg (s.la.toNat % s.cfg.mod) (s.cfg.mod - 2) ∧ SameButResult s t ∧ CompletedClean s t) ∧
    (s.cfg.variant = .reduced → ∃ t, exec .minv s = .next t ∧ FaultedWith .ill s t)

/-- R109: DZ for the zero divisor whatever the dividend, else the dividend times the divisor's inverse; ILL under REDUCED. -/
def Obligations.MdivDivides : Prop :=
  decodeWord 0x0000000000000005#64 = .ok .mdiv ∧
  ∀ s : State, s.cfg.Legal →
    (s.cfg.variant = .full → s.lb.toNat % s.cfg.mod = 0 → ∃ t, exec .mdiv s = .next t ∧ FaultedWith .dz s t) ∧
    (s.cfg.variant = .full → s.lb.toNat % s.cfg.mod ≠ 0 → ∃ t, exec .mdiv s = .next t ∧
      t.result.toNat = (s.la.toNat % s.cfg.mod) * modInv s.cfg (s.lb.toNat % s.cfg.mod) % s.cfg.mod ∧
      SameButResult s t ∧ CompletedClean s t) ∧
    (s.cfg.variant = .reduced → ∃ t, exec .mdiv s = .next t ∧ FaultedWith .ill s t)

/-- The results against exact arithmetic on the raw operands: the residue of the exact sum, difference and product, and
the quotient and the inverse by what they multiply to. An inference, not a rule: R103, R109 and R111 mark these as
derived, and R107 takes Fermat's little theorem from general knowledge. -/
def Obligations.ResultsAreExactResidues : Prop :=
  ∀ s : State, s.cfg.Legal →
    (∃ t, exec .madd s = .next t ∧ t.result.toNat = (s.la.toNat + s.lb.toNat) % s.cfg.mod) ∧
    (∃ t, exec .msub s = .next t ∧
      (t.result.toNat : Int) = ((s.la.toNat : Int) - (s.lb.toNat : Int)) % (s.cfg.mod : Int)) ∧
    (∃ t, exec .mmul s = .next t ∧ t.result.toNat = s.la.toNat * s.lb.toNat % s.cfg.mod) ∧
    (s.cfg.variant = .full → s.la.toNat % s.cfg.mod ≠ 0 → ∃ t, exec .minv s = .next t ∧ t.result.toNat < s.cfg.mod ∧
      s.la.toNat * t.result.toNat % s.cfg.mod = 1) ∧
    (s.cfg.variant = .full → s.lb.toNat % s.cfg.mod ≠ 0 → ∃ t, exec .mdiv s = .next t ∧ t.result.toNat < s.cfg.mod ∧
      t.result.toNat * s.lb.toNat % s.cfg.mod = s.la.toNat % s.cfg.mod)

/-- The eight laws of R111, which the spec marks "[derived: from rules R102 to R109 and the ring laws]", on the values in
RESULT, each intermediate result passed on as an operand. -/
def Obligations.ArithmeticLaws : Prop :=
  ∀ (s : State) (a b r : Word), s.cfg.Legal → s.cfg.variant = .full →
    (resultAfter .mred s a b = some r → resultAfter .mred s r b = some r) ∧
    (resultAfter .madd s a b = some r → resultAfter .msub s r b = resultAfter .mred s a b) ∧
    resultAfter .madd s a b = resultAfter .madd s b a ∧
    resultAfter .mmul s a b = resultAfter .mmul s b a ∧
    resultAfter .msub s a a = some 0#64 ∧
    (b.toNat % s.cfg.mod ≠ 0 → resultAfter .mmul s a b = some r → resultAfter .mdiv s r b = resultAfter .mred s a b) ∧
    (a.toNat % s.cfg.mod ≠ 0 → resultAfter .minv s a b = some r → resultAfter .mmul s a r = some 1#64) ∧
    (b.toNat % s.cfg.mod ≠ 0 → resultAfter .minv s b a = some r → resultAfter .mdiv s a b = resultAfter .mmul s a r)

-- Rolling hash (41_rolling_hash.md)

/-- R131: removal from the empty window is a no-op, removals fault with ILL alone, and pushes with ILL or OVF alone. -/
def Obligations.EmptyRemovalsAreNoOps : Prop :=
  (∀ s : State, s.window = [] → ∃ t, exec .remf s = .next t ∧ SameButStatus s t ∧ CompletedClean s t) ∧
  (∀ s : State, s.window = [] → s.cfg.variant = .full →
    ∃ t, exec .remb s = .next t ∧ SameButStatus s t ∧ CompletedClean s t) ∧
  (∀ (i : Instr) (s t : State), i = .remf ∨ i = .remb → exec i s = .next t → CompletedClean s t ∨ FaultedWith .ill s t) ∧
  (∀ (i : Instr) (s t : State), i = .appb ∨ i = .appf → exec i s = .next t →
    CompletedClean s t ∨ FaultedWith .ill s t ∨ FaultedWith .ovf s t)

/-- R133 (its bounds, at most one entry and at most `WIN_CAP + 1`, the spec marks "[derived: from 10_state.md rule R28]"):
`grow()` is the identity in ROM mode; in GROWN mode it adds the missing powers up to `PLEN = WLEN + 1` and
nothing else; from a table with `PLEN ≥ WLEN` it adds at most one; removals never change the table. -/
def Obligations.GrowExtendsTheTable : Prop :=
  (∀ s : State, s.cfg.ptMode = .rom → s.grow = s) ∧
  (∀ s : State, s.cfg.ptMode = .grown → 1 ≤ s.pt.length →
    s.grow = { s with pt := s.grow.pt } ∧ s.pt <+: s.grow.pt ∧
    s.grow.pt.length = max s.pt.length (s.window.length + 1) ∧
    (∀ k, s.pt.length ≤ k → k < s.grow.pt.length →
      s.grow.pt[k]? = some (zext64 ((s.grow.pt.getD (k - 1) 0#64).toNat * s.cfg.base % s.cfg.mod))) ∧
    (s.window.length ≤ s.pt.length → s.grow.pt.length ≤ s.pt.length + 1) ∧
    (s.window.length ≤ s.cfg.winCap → s.pt.length ≤ s.cfg.winCap + 1 → s.grow.pt.length ≤ s.cfg.winCap + 1)) ∧
  (∀ (i : Instr) (s t : State), i = .remf ∨ i = .remb → exec i s = .next t → t.pt = s.pt)

/-- R134, in every state that meets the invariant of the model. -/
def Obligations.AppbAppendsAtBack : Prop :=
  decodeWord 0x0000000000000010#64 = .ok .appb ∧
  ∀ s : State, BlockInv s →
    (elementInRange s.cfg s.la .appb = true → s.window.length < s.cfg.winCap → ∃ t, exec .appb s = .next t ∧
      t.hash.toNat = (s.hash.toNat * s.cfg.base + s.la.toNat % s.cfg.mod) % s.cfg.mod ∧
      t.window = s.window ++ [s.la] ∧ t.pt = tableAfterPush s.cfg (s.window.length + 1) s.pt ∧
      SameButCore s t ∧ CompletedClean s t) ∧
    (elementInRange s.cfg s.la .appb = true → s.window.length = s.cfg.winCap →
      ∃ t, exec .appb s = .next t ∧ FaultedWith .ovf s t) ∧
    (elementInRange s.cfg s.la .appb = false → ∃ t, exec .appb s = .next t ∧ FaultedWith .ill s t)

/-- R136, in every state that meets the invariant of the model. -/
def Obligations.RemfRemovesFront : Prop :=
  decodeWord 0x0000000000000011#64 = .ok .remf ∧
  ∀ s : State, BlockInv s →
    (s.window = [] → ∃ t, exec .remf s = .next t ∧ SameButStatus s t ∧ CompletedClean s t) ∧
    (∀ x rest, s.window = x :: rest → ∃ t, exec .remf s = .next t ∧
      t.hash.toNat = (s.hash.toNat + s.cfg.mod -
        (x.toNat % s.cfg.mod) * (s.pt.getD (s.window.length - 1) 0#64).toNat % s.cfg.mod) % s.cfg.mod ∧
      t.window = rest ∧ SameButWindow s t ∧ CompletedClean s t)

/-- R138; no DZ can occur, the last element's removal leaves HASH = 0, and ILL under REDUCED. -/
def Obligations.RembRemovesBack : Prop :=
  decodeWord 0x0000000000000012#64 = .ok .remb ∧
  ∀ s : State, s.cfg.Legal →
    (s.cfg.variant = .full → s.window = [] → ∃ t, exec .remb s = .next t ∧ SameButStatus s t ∧ CompletedClean s t) ∧
    (∀ w x, s.cfg.variant = .full → s.window = w ++ [x] → ∃ t, exec .remb s = .next t ∧
      t.hash.toNat =
        ((s.hash.toNat + s.cfg.mod - x.toNat % s.cfg.mod) % s.cfg.mod) * modInv s.cfg s.cfg.base % s.cfg.mod ∧
      t.window = w ∧ SameButWindow s t ∧ CompletedClean s t ∧ (w = [] → BlockInv s → t.hash = 0#64)) ∧
    (s.cfg.variant = .reduced → ∃ t, exec .remb s = .next t ∧ FaultedWith .ill s t)

/-- R140, in every state that meets the invariant of the model. -/
def Obligations.AppfAppendsAtFront : Prop :=
  decodeWord 0x0000000000000013#64 = .ok .appf ∧
  ∀ s : State, BlockInv s →
    (Instr.WellFormed s.cfg s.la .appf → s.window.length < s.cfg.winCap → ∃ t, exec .appf s = .next t ∧
      t.hash.toNat = (s.hash.toNat +
        (s.la.toNat % s.cfg.mod) * (s.pt.getD s.window.length 0#64).toNat % s.cfg.mod) % s.cfg.mod ∧
      t.window = s.la :: s.window ∧ t.pt = tableAfterPush s.cfg (s.window.length + 1) s.pt ∧
      SameButCore s t ∧ CompletedClean s t) ∧
    (Instr.WellFormed s.cfg s.la .appf → s.window.length = s.cfg.winCap →
      ∃ t, exec .appf s = .next t ∧ FaultedWith .ovf s t) ∧
    (¬ Instr.WellFormed s.cfg s.la .appf → ∃ t, exec .appf s = .next t ∧ FaultedWith .ill s t)

/-- R132, which the spec marks "[derived: from rules R135, R137, R139 and R141]": the window commands preserve the hash
invariant (R25) and the power-table invariant (R28); a faulting or no-op command leaves all but STATUS unchanged. -/
def Obligations.WindowCommandsPreserveTheHash : Prop :=
  ∀ (i : Instr) (s : State), i = .appb ∨ i = .remf ∨ i = .remb ∨ i = .appf → BlockInv s →
    ∃ t, exec i s = .next t ∧ t.hash.toNat = windowHash t.cfg t.window ∧
      (∀ k, k < t.pt.length → t.pt[k]? = some (powerEntry t.cfg k)) ∧
      t.window.length + 1 ≤ t.pt.length ∧ t.pt.length ≤ t.cfg.winCap + 1 ∧
      (¬ CompletedClean s t ∨ (s.window = [] ∧ (i = .remf ∨ i = .remb)) → SameButStatus s t)

/-- R142, a law the spec calls "a consequence of rules R133 to R141 [derived]": a push undone at the same end restores
HASH and the window; only the power table may be longer. -/
def Obligations.PushThenPopRestores : Prop :=
  ∀ s : State, BlockInv s → s.window.length < s.cfg.winCap → s.cfg.variant = .full →
    elementInRange s.cfg s.la .appb = true →
    (∃ t u, exec .appb s = .next t ∧ exec .remb t = .next u ∧
      u.hash = s.hash ∧ u.window = s.window ∧ s.pt <+: u.pt ∧ SameButCore s u ∧ CompletedClean s u) ∧
    (∃ t u, exec .appf s = .next t ∧ exec .remf t = .next u ∧
      u.hash = s.hash ∧ u.window = s.window ∧ s.pt <+: u.pt ∧ SameButCore s u ∧ CompletedClean s u)

/-- R143, a law the spec calls "a consequence of rules R133 to R141 [derived]": incremental equals batch, determinism,
resegmentation, and HASH depends on the window alone. -/
def Obligations.IncrementalEqualsBatch : Prop :=
  ∀ (s s' : State) (S : List Word), BlockInv s → BlockInv s' → s.cfg = s'.cfg → S.length ≤ s.cfg.winCap →
    (∀ x ∈ S, elementInRange s.cfg x .appb = true) →
    (initAll S s).window = S ∧ (initAll S s).hash = (initAll S s').hash ∧
    (∀ k, (appendAll (S.drop k) (initAll (S.take k) s)).hash = (initAll S s').hash ∧
      (appendAll (S.drop k) (initAll (S.take k) s)).window = (initAll S s').window) ∧
    (∀ x w y, S = x :: w → elementInRange s.cfg y .appb = true →
      (slideTo y (initAll S s)).hash = (initAll (w ++ [y]) s').hash ∧
      (slideTo y (initAll S s)).window = (initAll (w ++ [y]) s').window) ∧
    (s.window = s'.window → s.hash = s'.hash)

/-- R144, laws the spec calls "a consequence of rules R133 to R141 [derived]": the laws of the empty window. -/
def Obligations.EmptyWindowLaws : Prop :=
  ∀ s : State, BlockInv s → s.window = [] →
    (∃ t, exec .remf s = .next t ∧ t.hash = 0#64 ∧ t.window = []) ∧
    (∃ t, exec .remb s = .next t ∧ t.hash = 0#64 ∧ t.window = []) ∧
    (elementInRange s.cfg s.la .appb = true →
      ∃ t u, exec .appb s = .next t ∧ exec .remf t = .next u ∧ u.hash = 0#64 ∧ u.window = [])

-- Control (42_control.md)

/-- R160: NOP completes and changes nothing; with reserved bits it is ILL, while busy a write of it is OVR. -/
def Obligations.NopChangesNothing : Prop :=
  decodeWord 0x0000000000000000#64 = .ok .nop ∧
  (∀ s : State, ∃ t, exec .nop s = .next t ∧ SameButStatus s t ∧ CompletedClean s t) ∧
  (∀ s : State, s.lop.extractLsb' 0 8 = 0x00#8 → s.lop.extractLsb' 8 56 ≠ 0#56 →
    ∃ t, complete s = .next t ∧ FaultedWith .ill s t) ∧
  (∀ s : State, s.status.busy = true → writeCmd 0#64 s = { s with status := s.status.set .ovr })

/-- R162: CLEAR empties the window, sets HASH to 0 and, in GROWN mode, leaves the one entry `PT[0] = 1`. -/
def Obligations.ClearEmptiesTheWindow : Prop :=
  decodeWord 0x000000000000001F#64 = .ok .clear ∧
  ∀ s : State, ∃ t, exec .clear s = .next t ∧ t.window = [] ∧ t.hash = 0#64 ∧
    (s.cfg.ptMode = .grown → t.pt = [1#64]) ∧ (s.cfg.ptMode = .rom → t.pt = s.pt) ∧
    SameButCore s t ∧ CompletedClean s t

/-- R163: after CLEAR the core state is the reset state's, from every state that meets the invariant; the host-interface
state and the fault bits are kept. -/
def Obligations.ClearRestoresTheResetCore : Prop :=
  ∀ s : State, BlockInv s → ∃ t, exec .clear s = .next t ∧
    t.hash = (State.init s.cfg).hash ∧ t.window = (State.init s.cfg).window ∧ t.pt = (State.init s.cfg).pt ∧
    t.opa = s.opa ∧ t.opb = s.opb ∧ t.result = s.result ∧ t.widx = s.widx ∧ ∀ f, t.status.get f = s.status.get f

/-- What each command leaves unchanged, and which fault bits it can set (the table of 10_state.md section 5). The latches
are not claimed, since R34 leaves them unspecified once no command is in flight. -/
def Obligations.CommandFrames : Prop :=
  ∀ (i : Instr) (s t : State), exec i s = .next t →
    match i with
    | .nop   => SameButStatus s t ∧ CompletedClean s t
    | .mred  => SameButResult s t ∧ CompletedClean s t
    | .madd  => SameButResult s t ∧ CompletedClean s t
    | .msub  => SameButResult s t ∧ CompletedClean s t
    | .mmul  => SameButResult s t ∧ CompletedClean s t
    | .mdiv  => SameButResult s t ∧ (CompletedClean s t ∨ FaultedWith .ill s t ∨ FaultedWith .dz s t)
    | .minv  => SameButResult s t ∧ (CompletedClean s t ∨ FaultedWith .ill s t ∨ FaultedWith .dz s t)
    | .appb  => SameButCore s t ∧ (CompletedClean s t ∨ FaultedWith .ill s t ∨ FaultedWith .ovf s t)
    | .remf  => SameButWindow s t ∧ CompletedClean s t
    | .remb  => SameButWindow s t ∧ (CompletedClean s t ∨ FaultedWith .ill s t)
    | .appf  => SameButCore s t ∧ (CompletedClean s t ∨ FaultedWith .ill s t ∨ FaultedWith .ovf s t)
    | .clear => SameButCore s t ∧ CompletedClean s t

-- Faults (60_exceptions.md)

/-- R171: every completion either leaves the fault bits as they were, or sets one of ILL, DZ, OVF and changes nothing
else; BUSY is 0 in both cases. -/
def Obligations.FaultingCommandsArePrecise : Prop :=
  ∀ s : State, ∃ t, complete s = .next t ∧ t.status.busy = false ∧
    (CompletedClean s t ∨ FaultedWith .ill s t ∨ FaultedWith .dz s t ∨ FaultedWith .ovf s t)

/-- R175: the zero divisor of MDIV, the zero operand of MINV; REMB never raises DZ. -/
def Obligations.ZeroDivisorRaisesDz : Prop :=
  (∀ s : State, s.cfg.variant = .full → s.lb.toNat % s.cfg.mod = 0 → ∃ t, exec .mdiv s = .next t ∧ FaultedWith .dz s t) ∧
  (∀ s : State, s.cfg.variant = .full → s.la.toNat % s.cfg.mod = 0 → ∃ t, exec .minv s = .next t ∧ FaultedWith .dz s t) ∧
  (∀ s t : State, exec .remb s = .next t → t.status.dz = s.status.dz)

/-- R176. -/
def Obligations.FullWindowRaisesOvf : Prop :=
  ∀ (i : Instr) (s : State), i = .appb ∨ i = .appf → i.WellFormed s.cfg s.la → s.window.length = s.cfg.winCap →
    ∃ t, exec i s = .next t ∧ FaultedWith .ovf s t

/-- R180, for the one pair of conditions that can hold together after decoding: an element out of range on a full window
raises ILL and not OVF. -/
def Obligations.IllWinsOverOvf : Prop :=
  ∀ (i : Instr) (s : State), i = .appb ∨ i = .appf → elementInRange s.cfg s.la i = false →
    s.window.length = s.cfg.winCap → s.status.ovf = false →
    ∃ t, exec i s = .next t ∧ t.status.ill = true ∧ t.status.ovf = false ∧ t.window = s.window

/-- R178: outside reset no step clears a fault bit, and a set bit changes nothing about how commands are accepted and
performed. -/
def Obligations.FaultBitsAreSticky : Prop :=
  (∀ (s t : State) (f : FaultBit), step s = .next t → resetDue s = false → s.status.get f = true →
    t.status.get f = true) ∧
  (∀ (i : Instr) (s t : State) (f : FaultBit), exec i s = .next t → exec i (s.raise f) = .next (t.raise f)) ∧
  (∀ (v : Word) (s : State) (f : FaultBit), s.status.busy = false → writeCmd v (s.raise f) = (writeCmd v s).raise f)

-- The bus (20_memory.md, 70_reset_and_hazards.md)

/-- R30's layout of STATUS: the five fields in bits 0 to 4, zeros above; and the outputs of R50 outside reset: `busy` is
BUSY, `err` the OR of the four fault bits, and `req_ready` is 0 while a response is pending (R51). That the outputs read so
before the first reset too, where R193 leaves them open, is the model's choice (log entry 11). -/
def Obligations.StatusLayout : Prop :=
  (∀ (st : Status) (j : Nat), st.word.getLsbD j =
    if j = 0 then st.busy else if j = 1 then st.ill else if j = 2 then st.dz else if j = 3 then st.ovf
    else if j = 4 then st.ovr else false) ∧
  ∀ s : State, resetDue s = false →
    s.pins.busy = s.status.busy ∧
    (s.pins.err = true ↔ s.status.ill = true ∨ s.status.dz = true ∨ s.status.ovf = true ∨ s.status.ovr = true) ∧
    (∀ rsp, s.outstanding = some rsp → s.pins.reqReady = false)

/-- R32: MODR, BASER and CAPR show the parameters in every state, busy or not, and no step changes the parameters; for a
WIN_CAP that a register can hold (log entry 13). -/
def Obligations.ParametersReadBack : Prop :=
  (∀ s t : State, step s = .next t → t.cfg = s.cfg) ∧
  ∀ s : State, s.cfg.Legal → s.cfg.winCap < 2 ^ 64 →
    (∃ v, perform (readRequest .modr) s = (s, okResponse v) ∧ v.toNat = s.cfg.mod) ∧
    (∃ v, perform (readRequest .baser) s = (s, okResponse v) ∧ v.toNat = s.cfg.base) ∧
    (∃ v, perform (readRequest .capr) s = (s, okResponse v) ∧ v.toNat = s.cfg.winCap)

/-- R33 with R8: the fields of CONFIG, in every state; no step changes the parameters. -/
def Obligations.ConfigLayout : Prop :=
  (∀ s t : State, step s = .next t → t.cfg = s.cfg) ∧
  ∀ s : State, s.cfg.Legal → ∃ v, perform (readRequest .config) s = (s, okResponse v) ∧
    (v.extractLsb' 0 8).toNat = s.cfg.elemW ∧ (v.extractLsb' 8 8).toNat = resW s.cfg ∧
    s.cfg.mod - 1 < 2 ^ resW s.cfg ∧ (resW s.cfg = 1 ∨ 2 ^ (resW s.cfg - 1) ≤ s.cfg.mod - 1) ∧
    (v.getLsbD 16 = true ↔ s.cfg.ptMode = .rom) ∧ (v.getLsbD 17 = true ↔ s.cfg.variant = .reduced) ∧
    v.extractLsb' 18 46 = 0#46

/-- R36: WDATA shows the element at WIDX or 0, and while busy a draw; a read changes nothing but the model's own count of
draws. -/
def Obligations.WdataShowsTheElement : Prop :=
  ∀ s : State,
    (s.status.busy = false → ∀ h : s.widx.toNat < s.window.length,
      perform (readRequest .wdata) s = (s, okResponse (s.window[s.widx.toNat]'h))) ∧
    (s.status.busy = false → s.window.length ≤ s.widx.toNat → perform (readRequest .wdata) s = (s, okResponse 0#64)) ∧
    (s.status.busy = true →
      perform (readRequest .wdata) s = ({ s with draws := s.draws + 1 }, okResponse (Config.freeRead s.draws)))

/-- R57's register map by number, and what a read at each of its fourteen offsets returns with no command in flight (R21 to
R27, R30, R32, R33, R35, R36, R61); for a WLEN, PLEN or WIN_CAP that fits 64 bits (log entry 13). -/
def Obligations.IdleReadsReturnTheRegisters : Prop :=
  (Reg.cmd.offset = 0x00#8 ∧ Reg.opa.offset = 0x08#8 ∧ Reg.opb.offset = 0x10#8 ∧ Reg.result.offset = 0x18#8 ∧
    Reg.hash.offset = 0x20#8 ∧ Reg.wlen.offset = 0x28#8 ∧ Reg.plen.offset = 0x30#8 ∧ Reg.status.offset = 0x38#8 ∧
    Reg.modr.offset = 0x40#8 ∧ Reg.baser.offset = 0x48#8 ∧ Reg.capr.offset = 0x50#8 ∧ Reg.config.offset = 0x58#8 ∧
    Reg.widx.offset = 0x60#8 ∧ Reg.wdata.offset = 0x68#8) ∧
  ∀ s : State, s.status.busy = false →
    perform (readAt 0x00#8) s = (s, okResponse 0#64) ∧
    perform (readAt 0x08#8) s = (s, okResponse s.opa) ∧ perform (readAt 0x10#8) s = (s, okResponse s.opb) ∧
    perform (readAt 0x18#8) s = (s, okResponse s.result) ∧ perform (readAt 0x20#8) s = (s, okResponse s.hash) ∧
    (s.window.length < 2 ^ 64 → perform (readAt 0x28#8) s = (s, okResponse (zext64 s.window.length))) ∧
    (s.pt.length < 2 ^ 64 → perform (readAt 0x30#8) s = (s, okResponse (zext64 s.pt.length))) ∧
    perform (readAt 0x38#8) s = (s, okResponse s.status.word) ∧
    perform (readAt 0x40#8) s = (s, okResponse (zext64 s.cfg.mod)) ∧
    perform (readAt 0x48#8) s = (s, okResponse (zext64 s.cfg.base)) ∧
    (s.cfg.winCap < 2 ^ 64 → perform (readAt 0x50#8) s = (s, okResponse (zext64 s.cfg.winCap))) ∧
    perform (readAt 0x58#8) s = (s, okResponse (configWord s.cfg)) ∧
    perform (readAt 0x60#8) s = (s, okResponse s.widx) ∧
    perform (readAt 0x68#8) s = (s, okResponse (s.window.getD s.widx.toNat 0#64))

/-- R202: while a command is in flight RESULT, HASH, WLEN, PLEN and WDATA read as draws, and the rest as ever. The draw
`Config.freeRead s.draws` has no value any proof can use; the next read takes another one. -/
def Obligations.BusyReadsAreDraws : Prop :=
  ∀ s : State, s.status.busy = true →
    (∀ r, r = Reg.result ∨ r = Reg.hash ∨ r = Reg.wlen ∨ r = Reg.plen ∨ r = Reg.wdata →
      perform (readRequest r) s = ({ s with draws := s.draws + 1 }, okResponse (Config.freeRead s.draws))) ∧
    (perform (readRequest .status) s = (s, okResponse s.status.word) ∧ s.status.word.getLsbD 0 = true) ∧
    perform (readRequest .opa) s = (s, okResponse s.opa) ∧ perform (readRequest .opb) s = (s, okResponse s.opb) ∧
    perform (readRequest .widx) s = (s, okResponse s.widx) ∧
    perform (readRequest .modr) s = (s, okResponse (zext64 s.cfg.mod)) ∧
    perform (readRequest .baser) s = (s, okResponse (zext64 s.cfg.base)) ∧
    perform (readRequest .capr) s = (s, okResponse (countView s.cfg.winCap)) ∧
    perform (readRequest .config) s = (s, okResponse (configWord s.cfg)) ∧
    perform (readRequest .cmd) s = (s, okResponse 0#64)

/-- R58: a read, of any shape and offset, changes nothing but the model's own count of draws (log entry 4). -/
def Obligations.ReadsHaveNoSideEffect : Prop :=
  ∀ (r : Request) (s : State), r.we = false → (perform r s).1 = { s with draws := (perform r s).1.draws }

/-- R59: a write to OPA, OPB or WIDX stores the value, busy or not, and does nothing else; twice is once. -/
def Obligations.OperandWritesStore : Prop :=
  ∀ (v : Word) (s : State),
    perform (writeRequest .opa v) s = ({ s with opa := v }, okResponse 0#64) ∧
    perform (writeRequest .opb v) s = ({ s with opb := v }, okResponse 0#64) ∧
    perform (writeRequest .widx v) s = ({ s with widx := v }, okResponse 0#64) ∧
    ∀ r, r = Reg.opa ∨ r = Reg.opb ∨ r = Reg.widx →
      perform (writeRequest r v) (perform (writeRequest r v) s).1 = perform (writeRequest r v) s

/-- R60 and R179: the three kinds of refused access, over every offset and size, and no other: the error response, and no
change at all; a run with such a response does not end well. -/
def Obligations.BusErrorsChangeNothing : Prop :=
  (∀ (s : State) (rsp : Response), rsp ∈ s.responses → rsp.err = true → ¬ EndsWell s) ∧
  ∀ (r : Request) (s : State),
    ((r.size ≠ 3#2 ∨ r.addr.toNat % 8 ≠ 0 ∨ 0x70 ≤ r.addr.toNat ∨
      (r.we = true ∧ r.addr ≠ 0x00#8 ∧ r.addr ≠ 0x08#8 ∧ r.addr ≠ 0x10#8 ∧ r.addr ≠ 0x60#8)) →
      perform r s = (s, { rdata := 0#64, err := true })) ∧
    (r.size = 3#2 → r.addr.toNat % 8 = 0 → r.addr.toNat < 0x70 → r.we = false → (perform r s).2.err = false) ∧
    (r.size = 3#2 → r.we = true → r.addr = 0x00#8 ∨ r.addr = 0x08#8 ∨ r.addr = 0x10#8 ∨ r.addr = 0x60#8 →
      (perform r s).2.err = false)

/-- R62 and R177: a CMD write is accepted, filling the latches, when BUSY = 0, and is discarded with OVR when BUSY = 1. -/
def Obligations.CommandWriteAcceptsOrOverruns : Prop :=
  ∀ (v : Word) (s : State),
    (s.status.busy = false → ∃ t, perform (writeRequest .cmd v) s = (t, okResponse 0#64) ∧
      t.lop = v ∧ t.la = s.opa ∧ t.lb = s.opb ∧ t.status = s.status.setBusy true ∧
      t = { s with lop := t.lop, la := t.la, lb := t.lb, status := t.status, engineDelay := t.engineDelay,
                   draws := t.draws }) ∧
    (s.status.busy = true →
      perform (writeRequest .cmd v) s = ({ s with status := { s.status with ovr := true } }, okResponse 0#64))

/-- R34 and R204: what the host writes to OPA, OPB and WIDX while a command is in flight does not reach it. -/
def Obligations.LatchesIsolateTheCommand : Prop :=
  ∀ (s t : State) (a b w : Word), complete s = .next t →
    complete { s with opa := a, opb := b, widx := w } = .next { t with opa := a, opb := b, widx := w }

/-- R55: byte `i` of a slot is bits `8i+7 : 8i` of its register. -/
def Obligations.ByteLanesAreLittleEndian : Prop :=
  ∀ (v : Word) (i j : Nat), i < 8 → j < 8 → (byteLane v i).getLsbD j = v.getLsbD (8 * i + j)

/-- R53 with R13: the host reaches each offset at `BASE_ADDR + offset`. That the sum does not wrap, and that no other
address reaches an offset, is the model's choice (log entry 20). -/
def Obligations.PlatformAddressesReachOffsets : Prop :=
  ∀ (c : Config) (addr : Nat) (a : BitVec 8), offsetOf c addr = some a ↔ addr = c.baseAddr + a.toNat

-- Reset and steps (70_reset_and_hazards.md)

/-- The reset values R190 gives, in State.reset; the latches and the model's own fields are not claimed. -/
def Obligations.ResetStateValues : Prop :=
  State.reset.opa = 0#64 ∧ State.reset.opb = 0#64 ∧ State.reset.result = 0#64 ∧ State.reset.hash = 0#64 ∧
  State.reset.window = [] ∧ State.reset.pt = [1#64] ∧ State.reset.widx = 0#64 ∧ State.reset.status.word = 0#64 ∧
  State.reset.outstanding = none

/-- R190's table: a reset edge takes every piece of the block's state to its reset value from any state, for any
parameters, and masks the outputs; no command is in flight after it. -/
def Obligations.ResetEdgeResetsTheBlock : Prop :=
  ∀ s : State, resetDue s = true → ∃ t, step s = .next t ∧ t.cfg = s.cfg ∧
    t.hash = 0#64 ∧ t.window = [] ∧ t.opa = 0#64 ∧ t.opb = 0#64 ∧ t.result = 0#64 ∧ t.widx = 0#64 ∧
    t.status.word = 0#64 ∧
    (s.cfg.ptMode = .grown → t.pt = [1#64]) ∧
    (s.cfg.ptMode = .rom → t.pt.length = s.cfg.winCap + 1 ∧
      ∀ k, k ≤ s.cfg.winCap → t.pt[k]? = some (zext64 (s.cfg.base ^ k % s.cfg.mod))) ∧
    (s.pins.reqReady = false ∧ s.pins.rsp = none ∧ s.pins.busy = false ∧ s.pins.err = false)

/-- R191: reset aborts the command in flight and the outstanding access: nothing completes, none of its effects appears,
no response is given. -/
def Obligations.ResetAbortsWhatIsPending : Prop :=
  ∀ s : State, resetDue s = true → ∃ t, step s = .next t ∧ t.status.busy = false ∧ completionDue t = false ∧
    t.result = 0#64 ∧ t.hash = 0#64 ∧ t.window = [] ∧ t.pt = resetTable s.cfg ∧ t.status.err = false ∧
    t.outstanding = none ∧ t.responses = s.responses ∧ t.host = s.host

/-- R193: before the first reset the model stops (its choice of form, log entry 11); one reset edge, from any state, ends
that and is used up (R192, log entry 8), and from then on every step answers a next state. -/
def Obligations.NothingRunsBeforeReset : Prop :=
  (∀ s : State, s.wasReset = false → resetDue s = false → step s = .fault .notReset) ∧
  (∀ s : State, resetDue s = true → ∃ t, step s = .next t ∧ t.wasReset = true ∧ t.rst = s.rst.tail) ∧
  (∀ s : State, s.wasReset = true → ∃ t, step s = .next t ∧ t.wasReset = true)

/-- R14: exactly the legal parameter sets build a machine. -/
def Obligations.OnlyLegalParametersBuild : Prop :=
  ∀ c : Config,
    (Nat.Prime c.mod ∧ 0 < c.base ∧ c.base < c.mod ∧ c.mod * c.mod ≤ 2 ^ 64 - 1 ∧ 1 ≤ c.elemW ∧ c.elemW ≤ 64 ∧
      1 ≤ c.winCap → ∃ t, State.build c = .next t ∧ t.cfg = c) ∧
    (¬ (Nat.Prime c.mod ∧ 0 < c.base ∧ c.base < c.mod ∧ c.mod * c.mod ≤ 2 ^ 64 - 1 ∧ 1 ≤ c.elemW ∧ c.elemW ≤ 64 ∧
      1 ≤ c.winCap) → State.build c = .refused .illegalConfig)

/-- A step with a due completion is the completion step: the decoded command's run, or ILL alone where the decoder refuses
the word or the element (R84, R173, R174, R201); and a placed well-formed command is the next step's. That a due
completion comes before the bus is the model's choice (log entry 7), and so is what placing a command sets: delay 0, a due
reset put off, the machine reset (log entry 9). -/
def Obligations.StepRunsTheDecodedCommand : Prop :=
  (∀ s : State, resetDue s = false → s.wasReset = true → completionDue s = true → step s = complete s ∧
    ∀ e, decode s.cfg s.lop s.la = .error e → ∃ t, step s = .next t ∧ FaultedWith .ill s t) ∧
  (∀ (s : State) (i : Instr), resetDue s = false → s.wasReset = true → s.status.busy = true → s.engineDelay = 0 →
    decode s.cfg s.lop s.la = .ok i → step s = exec i s) ∧
  (∀ (s : State) (i : Instr), i.WellFormed s.cfg s.opa →
    step (s.withFetchWord 64 (encode i).toNat) = exec i (s.withCommand (encode i)))

/-- R201: with no reset to come, a command in flight has completed after exactly its delay and one more step. That the
delay is a count of moves and that a due completion comes before the bus is the model's choice (log entries 5 and 7). -/
def Obligations.CommandsComplete : Prop :=
  ∀ s : State, s.status.busy = true → s.wasReset = true → s.rst = [] →
    (∀ n, n ≤ s.engineDelay → ∃ t, core.run n s = .next t ∧ t.status.busy = true ∧ t.engineDelay = s.engineDelay - n ∧
      t.lop = s.lop ∧ t.la = s.la ∧ t.lb = s.lb) ∧
    ∃ t, core.run (s.engineDelay + 1) s = .next t ∧ t.status.busy = false

/-- R63 and R37: RESULT, HASH, the window and the power table change only in a completion or a reset. -/
def Obligations.CoreChangesOnlyAtCompletion : Prop :=
  ∀ s t : State, step s = .next t → resetDue s = false → completionDue s = false →
    t.result = s.result ∧ t.hash = s.hash ∧ t.window = s.window ∧ t.pt = s.pt ∧ t.cfg = s.cfg

/-- R29: in GROWN mode no step but a CLEAR or a reset shortens the power table or rewrites an entry, and those two return
it to its initial state. -/
def Obligations.PowerTableIsMonotone : Prop :=
  ∀ s t : State, s.cfg.ptMode = .grown → step s = .next t →
    (resetDue s = false → (completionDue s = true → s.lop ≠ encode .clear) → s.pt <+: t.pt) ∧
    (resetDue s = true ∨ (completionDue s = true ∧ s.lop = encode .clear) → t.pt = [1#64])

/-- R31, R51, R52 and R64: a step gives the host at most one response and never changes one it has given; while a response
is outstanding no request is performed and the response is given once its delay is over, and the host's position goes on
by one when it answers an access (for `wait` see WaitRepeatsWhileBusy); with none outstanding the host's next access is
transferred and performed once the stall is over, and until then, or with no access left, the stall goes down. That an
access is performed at its transfer, that stalls and delays are counts of moves, that a due completion comes first, and
that the host presents its next access as soon as it can is the model's choice (log entries 21, 6, 7 and 22). -/
def Obligations.ResponsesComeOneAtATime : Prop :=
  (∀ s t : State, step s = .next t →
    (t.responses = s.responses ∨ ∃ rsp, s.outstanding = some rsp ∧ t.responses = s.responses ++ [rsp]) ∧
    (resetDue s = false → ∀ rsp, s.outstanding = some rsp →
      (t.outstanding = some rsp ∧ t.responses = s.responses) ∨ (t.outstanding = none ∧ t.responses = s.responses ++ [rsp])) ∧
    (resetDue s = false → completionDue s = false → ∀ rsp, s.outstanding = some rsp →
      SameHostSide s t ∧
      (s.rspDelay = 0 → t.outstanding = none ∧ ∀ r, s.host[s.pc]? = some (.access r) → t.pc = s.pc + 1) ∧
      (s.rspDelay ≠ 0 → t.outstanding = some rsp ∧ t.rspDelay = s.rspDelay - 1 ∧ t.pc = s.pc)) ∧
    (resetDue s = false → completionDue s = false → s.outstanding = none → s.reqStall ≠ 0 ∨ s.host[s.pc]? = none →
      SameHostSide s t ∧ t.outstanding = none ∧ t.reqStall = s.reqStall - 1 ∧ t.pc = s.pc)) ∧
  ∀ (s : State) (op : HostOp), resetDue s = false → s.wasReset = true → completionDue s = false → s.outstanding = none →
    s.reqStall = 0 → s.host[s.pc]? = some op →
    ∃ t, step s = .next t ∧ t.outstanding = some (perform op.request s.tick).2 ∧
      SameHostSide (perform op.request s.tick).1 t ∧ t.responses = s.responses ∧ t.pc = s.pc

/-- R92: the access of a `wait` is a read of STATUS; when it is answered, the host repeats it if bit 0 is 1 and goes on if
it is 0. -/
def Obligations.WaitRepeatsWhileBusy : Prop :=
  HostOp.request .wait = readRequest .status ∧
  ∀ (s : State) (rsp : Response), resetDue s = false → s.wasReset = true → completionDue s = false →
    s.outstanding = some rsp → s.rspDelay = 0 → s.host[s.pc]? = some .wait →
    ∃ t, step s = .next t ∧ t.responses = s.responses ++ [rsp] ∧
      t.pc = if rsp.rdata.getLsbD 0 then s.pc else s.pc + 1

/-- The invariant of the model holds in State.reset, in the reset state of any legal parameters, and after a reset edge
from any state; the spec marks this "[derived: from this table]" in R190. -/
def Obligations.ResetMeetsTheBlockInvariant : Prop :=
  BlockInv State.reset ∧ (∀ c : Config, c.Legal → BlockInv (State.init c)) ∧
  ∀ s : State, resetDue s = true → s.cfg.Legal → ∃ t, step s = .next t ∧ BlockInv t

/-- Every step keeps the invariant of the model: the hash is the window's polynomial, the power table its powers, the
lengths in bounds, RESULT a residue, the parameters legal (R23 to R28, R132). -/
def Obligations.EveryStepKeepsTheBlockInvariant : Prop :=
  ∀ s t : State, BlockInv s → step s = .next t → BlockInv t
end

