-- ==== Sys2Proof/Laws/State.lean ====
section
/-! SUPPORT. What each named update of the state does to each field, and what each update of STATUS does to each bit. -/

namespace Sys2Proof.Machine

@[simp] theorem State.finish_cfg (s : State) : s.finish.cfg = s.cfg := rfl
@[simp] theorem State.finish_opa (s : State) : s.finish.opa = s.opa := rfl
@[simp] theorem State.finish_opb (s : State) : s.finish.opb = s.opb := rfl
@[simp] theorem State.finish_result (s : State) : s.finish.result = s.result := rfl
@[simp] theorem State.finish_hash (s : State) : s.finish.hash = s.hash := rfl
@[simp] theorem State.finish_window (s : State) : s.finish.window = s.window := rfl
@[simp] theorem State.finish_pt (s : State) : s.finish.pt = s.pt := rfl
@[simp] theorem State.finish_status (s : State) : s.finish.status = s.status.setBusy false := rfl
@[simp] theorem State.finish_widx (s : State) : s.finish.widx = s.widx := rfl
@[simp] theorem State.finish_lop (s : State) : s.finish.lop = s.lop := rfl
@[simp] theorem State.finish_la (s : State) : s.finish.la = s.la := rfl
@[simp] theorem State.finish_lb (s : State) : s.finish.lb = s.lb := rfl
@[simp] theorem State.finish_engineDelay (s : State) : s.finish.engineDelay = s.engineDelay := rfl
@[simp] theorem State.finish_outstanding (s : State) : s.finish.outstanding = s.outstanding := rfl
@[simp] theorem State.finish_rspDelay (s : State) : s.finish.rspDelay = s.rspDelay := rfl
@[simp] theorem State.finish_reqStall (s : State) : s.finish.reqStall = s.reqStall := rfl
@[simp] theorem State.finish_wasReset (s : State) : s.finish.wasReset = s.wasReset := rfl
@[simp] theorem State.finish_rst (s : State) : s.finish.rst = s.rst := rfl
@[simp] theorem State.finish_host (s : State) : s.finish.host = s.host := rfl
@[simp] theorem State.finish_pc (s : State) : s.finish.pc = s.pc := rfl
@[simp] theorem State.finish_responses (s : State) : s.finish.responses = s.responses := rfl
@[simp] theorem State.finish_draws (s : State) : s.finish.draws = s.draws := rfl

@[simp] theorem State.raise_cfg (f : FaultBit) (s : State) : (s.raise f).cfg = s.cfg := rfl
@[simp] theorem State.raise_opa (f : FaultBit) (s : State) : (s.raise f).opa = s.opa := rfl
@[simp] theorem State.raise_opb (f : FaultBit) (s : State) : (s.raise f).opb = s.opb := rfl
@[simp] theorem State.raise_result (f : FaultBit) (s : State) : (s.raise f).result = s.result := rfl
@[simp] theorem State.raise_hash (f : FaultBit) (s : State) : (s.raise f).hash = s.hash := rfl
@[simp] theorem State.raise_window (f : FaultBit) (s : State) : (s.raise f).window = s.window := rfl
@[simp] theorem State.raise_pt (f : FaultBit) (s : State) : (s.raise f).pt = s.pt := rfl
@[simp] theorem State.raise_status (f : FaultBit) (s : State) : (s.raise f).status = s.status.set f := rfl
@[simp] theorem State.raise_widx (f : FaultBit) (s : State) : (s.raise f).widx = s.widx := rfl
@[simp] theorem State.raise_lop (f : FaultBit) (s : State) : (s.raise f).lop = s.lop := rfl
@[simp] theorem State.raise_la (f : FaultBit) (s : State) : (s.raise f).la = s.la := rfl
@[simp] theorem State.raise_lb (f : FaultBit) (s : State) : (s.raise f).lb = s.lb := rfl
@[simp] theorem State.raise_engineDelay (f : FaultBit) (s : State) : (s.raise f).engineDelay = s.engineDelay := rfl
@[simp] theorem State.raise_outstanding (f : FaultBit) (s : State) : (s.raise f).outstanding = s.outstanding := rfl
@[simp] theorem State.raise_rspDelay (f : FaultBit) (s : State) : (s.raise f).rspDelay = s.rspDelay := rfl
@[simp] theorem State.raise_reqStall (f : FaultBit) (s : State) : (s.raise f).reqStall = s.reqStall := rfl
@[simp] theorem State.raise_wasReset (f : FaultBit) (s : State) : (s.raise f).wasReset = s.wasReset := rfl
@[simp] theorem State.raise_rst (f : FaultBit) (s : State) : (s.raise f).rst = s.rst := rfl
@[simp] theorem State.raise_host (f : FaultBit) (s : State) : (s.raise f).host = s.host := rfl
@[simp] theorem State.raise_pc (f : FaultBit) (s : State) : (s.raise f).pc = s.pc := rfl
@[simp] theorem State.raise_responses (f : FaultBit) (s : State) : (s.raise f).responses = s.responses := rfl
@[simp] theorem State.raise_draws (f : FaultBit) (s : State) : (s.raise f).draws = s.draws := rfl

@[simp] theorem State.fail_cfg (f : FaultBit) (s : State) : (s.fail f).cfg = s.cfg := rfl
@[simp] theorem State.fail_opa (f : FaultBit) (s : State) : (s.fail f).opa = s.opa := rfl
@[simp] theorem State.fail_opb (f : FaultBit) (s : State) : (s.fail f).opb = s.opb := rfl
@[simp] theorem State.fail_result (f : FaultBit) (s : State) : (s.fail f).result = s.result := rfl
@[simp] theorem State.fail_hash (f : FaultBit) (s : State) : (s.fail f).hash = s.hash := rfl
@[simp] theorem State.fail_window (f : FaultBit) (s : State) : (s.fail f).window = s.window := rfl
@[simp] theorem State.fail_pt (f : FaultBit) (s : State) : (s.fail f).pt = s.pt := rfl
@[simp] theorem State.fail_status (f : FaultBit) (s : State) : (s.fail f).status = (s.status.set f).setBusy false := rfl
@[simp] theorem State.fail_widx (f : FaultBit) (s : State) : (s.fail f).widx = s.widx := rfl
@[simp] theorem State.fail_lop (f : FaultBit) (s : State) : (s.fail f).lop = s.lop := rfl
@[simp] theorem State.fail_la (f : FaultBit) (s : State) : (s.fail f).la = s.la := rfl
@[simp] theorem State.fail_lb (f : FaultBit) (s : State) : (s.fail f).lb = s.lb := rfl
@[simp] theorem State.fail_engineDelay (f : FaultBit) (s : State) : (s.fail f).engineDelay = s.engineDelay := rfl
@[simp] theorem State.fail_outstanding (f : FaultBit) (s : State) : (s.fail f).outstanding = s.outstanding := rfl
@[simp] theorem State.fail_rspDelay (f : FaultBit) (s : State) : (s.fail f).rspDelay = s.rspDelay := rfl
@[simp] theorem State.fail_reqStall (f : FaultBit) (s : State) : (s.fail f).reqStall = s.reqStall := rfl
@[simp] theorem State.fail_wasReset (f : FaultBit) (s : State) : (s.fail f).wasReset = s.wasReset := rfl
@[simp] theorem State.fail_rst (f : FaultBit) (s : State) : (s.fail f).rst = s.rst := rfl
@[simp] theorem State.fail_host (f : FaultBit) (s : State) : (s.fail f).host = s.host := rfl
@[simp] theorem State.fail_pc (f : FaultBit) (s : State) : (s.fail f).pc = s.pc := rfl
@[simp] theorem State.fail_responses (f : FaultBit) (s : State) : (s.fail f).responses = s.responses := rfl
@[simp] theorem State.fail_draws (f : FaultBit) (s : State) : (s.fail f).draws = s.draws := rfl

@[simp] theorem State.setResult_cfg (v : Nat) (s : State) : (s.setResult v).cfg = s.cfg := rfl
@[simp] theorem State.setResult_opa (v : Nat) (s : State) : (s.setResult v).opa = s.opa := rfl
@[simp] theorem State.setResult_opb (v : Nat) (s : State) : (s.setResult v).opb = s.opb := rfl
@[simp] theorem State.setResult_result (v : Nat) (s : State) : (s.setResult v).result = zext64 v := rfl
@[simp] theorem State.setResult_hash (v : Nat) (s : State) : (s.setResult v).hash = s.hash := rfl
@[simp] theorem State.setResult_window (v : Nat) (s : State) : (s.setResult v).window = s.window := rfl
@[simp] theorem State.setResult_pt (v : Nat) (s : State) : (s.setResult v).pt = s.pt := rfl
@[simp] theorem State.setResult_status (v : Nat) (s : State) : (s.setResult v).status = s.status := rfl
@[simp] theorem State.setResult_widx (v : Nat) (s : State) : (s.setResult v).widx = s.widx := rfl
@[simp] theorem State.setResult_lop (v : Nat) (s : State) : (s.setResult v).lop = s.lop := rfl
@[simp] theorem State.setResult_la (v : Nat) (s : State) : (s.setResult v).la = s.la := rfl
@[simp] theorem State.setResult_lb (v : Nat) (s : State) : (s.setResult v).lb = s.lb := rfl
@[simp] theorem State.setResult_engineDelay (v : Nat) (s : State) : (s.setResult v).engineDelay = s.engineDelay := rfl
@[simp] theorem State.setResult_outstanding (v : Nat) (s : State) : (s.setResult v).outstanding = s.outstanding := rfl
@[simp] theorem State.setResult_rspDelay (v : Nat) (s : State) : (s.setResult v).rspDelay = s.rspDelay := rfl
@[simp] theorem State.setResult_reqStall (v : Nat) (s : State) : (s.setResult v).reqStall = s.reqStall := rfl
@[simp] theorem State.setResult_wasReset (v : Nat) (s : State) : (s.setResult v).wasReset = s.wasReset := rfl
@[simp] theorem State.setResult_rst (v : Nat) (s : State) : (s.setResult v).rst = s.rst := rfl
@[simp] theorem State.setResult_host (v : Nat) (s : State) : (s.setResult v).host = s.host := rfl
@[simp] theorem State.setResult_pc (v : Nat) (s : State) : (s.setResult v).pc = s.pc := rfl
@[simp] theorem State.setResult_responses (v : Nat) (s : State) : (s.setResult v).responses = s.responses := rfl
@[simp] theorem State.setResult_draws (v : Nat) (s : State) : (s.setResult v).draws = s.draws := rfl

@[simp] theorem State.setHash_cfg (v : Nat) (s : State) : (s.setHash v).cfg = s.cfg := rfl
@[simp] theorem State.setHash_opa (v : Nat) (s : State) : (s.setHash v).opa = s.opa := rfl
@[simp] theorem State.setHash_opb (v : Nat) (s : State) : (s.setHash v).opb = s.opb := rfl
@[simp] theorem State.setHash_result (v : Nat) (s : State) : (s.setHash v).result = s.result := rfl
@[simp] theorem State.setHash_hash (v : Nat) (s : State) : (s.setHash v).hash = zext64 v := rfl
@[simp] theorem State.setHash_window (v : Nat) (s : State) : (s.setHash v).window = s.window := rfl
@[simp] theorem State.setHash_pt (v : Nat) (s : State) : (s.setHash v).pt = s.pt := rfl
@[simp] theorem State.setHash_status (v : Nat) (s : State) : (s.setHash v).status = s.status := rfl
@[simp] theorem State.setHash_widx (v : Nat) (s : State) : (s.setHash v).widx = s.widx := rfl
@[simp] theorem State.setHash_lop (v : Nat) (s : State) : (s.setHash v).lop = s.lop := rfl
@[simp] theorem State.setHash_la (v : Nat) (s : State) : (s.setHash v).la = s.la := rfl
@[simp] theorem State.setHash_lb (v : Nat) (s : State) : (s.setHash v).lb = s.lb := rfl
@[simp] theorem State.setHash_engineDelay (v : Nat) (s : State) : (s.setHash v).engineDelay = s.engineDelay := rfl
@[simp] theorem State.setHash_outstanding (v : Nat) (s : State) : (s.setHash v).outstanding = s.outstanding := rfl
@[simp] theorem State.setHash_rspDelay (v : Nat) (s : State) : (s.setHash v).rspDelay = s.rspDelay := rfl
@[simp] theorem State.setHash_reqStall (v : Nat) (s : State) : (s.setHash v).reqStall = s.reqStall := rfl
@[simp] theorem State.setHash_wasReset (v : Nat) (s : State) : (s.setHash v).wasReset = s.wasReset := rfl
@[simp] theorem State.setHash_rst (v : Nat) (s : State) : (s.setHash v).rst = s.rst := rfl
@[simp] theorem State.setHash_host (v : Nat) (s : State) : (s.setHash v).host = s.host := rfl
@[simp] theorem State.setHash_pc (v : Nat) (s : State) : (s.setHash v).pc = s.pc := rfl
@[simp] theorem State.setHash_responses (v : Nat) (s : State) : (s.setHash v).responses = s.responses := rfl
@[simp] theorem State.setHash_draws (v : Nat) (s : State) : (s.setHash v).draws = s.draws := rfl

@[simp] theorem State.setWindow_cfg (w : List Word) (s : State) : (s.setWindow w).cfg = s.cfg := rfl
@[simp] theorem State.setWindow_opa (w : List Word) (s : State) : (s.setWindow w).opa = s.opa := rfl
@[simp] theorem State.setWindow_opb (w : List Word) (s : State) : (s.setWindow w).opb = s.opb := rfl
@[simp] theorem State.setWindow_result (w : List Word) (s : State) : (s.setWindow w).result = s.result := rfl
@[simp] theorem State.setWindow_hash (w : List Word) (s : State) : (s.setWindow w).hash = s.hash := rfl
@[simp] theorem State.setWindow_window (w : List Word) (s : State) : (s.setWindow w).window = w := rfl
@[simp] theorem State.setWindow_pt (w : List Word) (s : State) : (s.setWindow w).pt = s.pt := rfl
@[simp] theorem State.setWindow_status (w : List Word) (s : State) : (s.setWindow w).status = s.status := rfl
@[simp] theorem State.setWindow_widx (w : List Word) (s : State) : (s.setWindow w).widx = s.widx := rfl
@[simp] theorem State.setWindow_lop (w : List Word) (s : State) : (s.setWindow w).lop = s.lop := rfl
@[simp] theorem State.setWindow_la (w : List Word) (s : State) : (s.setWindow w).la = s.la := rfl
@[simp] theorem State.setWindow_lb (w : List Word) (s : State) : (s.setWindow w).lb = s.lb := rfl
@[simp] theorem State.setWindow_engineDelay (w : List Word) (s : State) : (s.setWindow w).engineDelay = s.engineDelay := rfl
@[simp] theorem State.setWindow_outstanding (w : List Word) (s : State) : (s.setWindow w).outstanding = s.outstanding := rfl
@[simp] theorem State.setWindow_rspDelay (w : List Word) (s : State) : (s.setWindow w).rspDelay = s.rspDelay := rfl
@[simp] theorem State.setWindow_reqStall (w : List Word) (s : State) : (s.setWindow w).reqStall = s.reqStall := rfl
@[simp] theorem State.setWindow_wasReset (w : List Word) (s : State) : (s.setWindow w).wasReset = s.wasReset := rfl
@[simp] theorem State.setWindow_rst (w : List Word) (s : State) : (s.setWindow w).rst = s.rst := rfl
@[simp] theorem State.setWindow_host (w : List Word) (s : State) : (s.setWindow w).host = s.host := rfl
@[simp] theorem State.setWindow_pc (w : List Word) (s : State) : (s.setWindow w).pc = s.pc := rfl
@[simp] theorem State.setWindow_responses (w : List Word) (s : State) : (s.setWindow w).responses = s.responses := rfl
@[simp] theorem State.setWindow_draws (w : List Word) (s : State) : (s.setWindow w).draws = s.draws := rfl

@[simp] theorem State.setTable_cfg (t : List Word) (s : State) : (s.setTable t).cfg = s.cfg := rfl
@[simp] theorem State.setTable_opa (t : List Word) (s : State) : (s.setTable t).opa = s.opa := rfl
@[simp] theorem State.setTable_opb (t : List Word) (s : State) : (s.setTable t).opb = s.opb := rfl
@[simp] theorem State.setTable_result (t : List Word) (s : State) : (s.setTable t).result = s.result := rfl
@[simp] theorem State.setTable_hash (t : List Word) (s : State) : (s.setTable t).hash = s.hash := rfl
@[simp] theorem State.setTable_window (t : List Word) (s : State) : (s.setTable t).window = s.window := rfl
@[simp] theorem State.setTable_pt (t : List Word) (s : State) : (s.setTable t).pt = t := rfl
@[simp] theorem State.setTable_status (t : List Word) (s : State) : (s.setTable t).status = s.status := rfl
@[simp] theorem State.setTable_widx (t : List Word) (s : State) : (s.setTable t).widx = s.widx := rfl
@[simp] theorem State.setTable_lop (t : List Word) (s : State) : (s.setTable t).lop = s.lop := rfl
@[simp] theorem State.setTable_la (t : List Word) (s : State) : (s.setTable t).la = s.la := rfl
@[simp] theorem State.setTable_lb (t : List Word) (s : State) : (s.setTable t).lb = s.lb := rfl
@[simp] theorem State.setTable_engineDelay (t : List Word) (s : State) : (s.setTable t).engineDelay = s.engineDelay := rfl
@[simp] theorem State.setTable_outstanding (t : List Word) (s : State) : (s.setTable t).outstanding = s.outstanding := rfl
@[simp] theorem State.setTable_rspDelay (t : List Word) (s : State) : (s.setTable t).rspDelay = s.rspDelay := rfl
@[simp] theorem State.setTable_reqStall (t : List Word) (s : State) : (s.setTable t).reqStall = s.reqStall := rfl
@[simp] theorem State.setTable_wasReset (t : List Word) (s : State) : (s.setTable t).wasReset = s.wasReset := rfl
@[simp] theorem State.setTable_rst (t : List Word) (s : State) : (s.setTable t).rst = s.rst := rfl
@[simp] theorem State.setTable_host (t : List Word) (s : State) : (s.setTable t).host = s.host := rfl
@[simp] theorem State.setTable_pc (t : List Word) (s : State) : (s.setTable t).pc = s.pc := rfl
@[simp] theorem State.setTable_responses (t : List Word) (s : State) : (s.setTable t).responses = s.responses := rfl
@[simp] theorem State.setTable_draws (t : List Word) (s : State) : (s.setTable t).draws = s.draws := rfl

@[simp] theorem State.drawn_cfg (s : State) : s.drawn.cfg = s.cfg := rfl
@[simp] theorem State.drawn_opa (s : State) : s.drawn.opa = s.opa := rfl
@[simp] theorem State.drawn_opb (s : State) : s.drawn.opb = s.opb := rfl
@[simp] theorem State.drawn_result (s : State) : s.drawn.result = s.result := rfl
@[simp] theorem State.drawn_hash (s : State) : s.drawn.hash = s.hash := rfl
@[simp] theorem State.drawn_window (s : State) : s.drawn.window = s.window := rfl
@[simp] theorem State.drawn_pt (s : State) : s.drawn.pt = s.pt := rfl
@[simp] theorem State.drawn_status (s : State) : s.drawn.status = s.status := rfl
@[simp] theorem State.drawn_widx (s : State) : s.drawn.widx = s.widx := rfl
@[simp] theorem State.drawn_lop (s : State) : s.drawn.lop = s.lop := rfl
@[simp] theorem State.drawn_la (s : State) : s.drawn.la = s.la := rfl
@[simp] theorem State.drawn_lb (s : State) : s.drawn.lb = s.lb := rfl
@[simp] theorem State.drawn_engineDelay (s : State) : s.drawn.engineDelay = s.engineDelay := rfl
@[simp] theorem State.drawn_outstanding (s : State) : s.drawn.outstanding = s.outstanding := rfl
@[simp] theorem State.drawn_rspDelay (s : State) : s.drawn.rspDelay = s.rspDelay := rfl
@[simp] theorem State.drawn_reqStall (s : State) : s.drawn.reqStall = s.reqStall := rfl
@[simp] theorem State.drawn_wasReset (s : State) : s.drawn.wasReset = s.wasReset := rfl
@[simp] theorem State.drawn_rst (s : State) : s.drawn.rst = s.rst := rfl
@[simp] theorem State.drawn_host (s : State) : s.drawn.host = s.host := rfl
@[simp] theorem State.drawn_pc (s : State) : s.drawn.pc = s.pc := rfl
@[simp] theorem State.drawn_responses (s : State) : s.drawn.responses = s.responses := rfl
@[simp] theorem State.drawn_draws (s : State) : s.drawn.draws = s.draws + 1 := rfl

@[simp] theorem State.accept_cfg (v : Word) (s : State) : (s.accept v).cfg = s.cfg := rfl
@[simp] theorem State.accept_opa (v : Word) (s : State) : (s.accept v).opa = s.opa := rfl
@[simp] theorem State.accept_opb (v : Word) (s : State) : (s.accept v).opb = s.opb := rfl
@[simp] theorem State.accept_result (v : Word) (s : State) : (s.accept v).result = s.result := rfl
@[simp] theorem State.accept_hash (v : Word) (s : State) : (s.accept v).hash = s.hash := rfl
@[simp] theorem State.accept_window (v : Word) (s : State) : (s.accept v).window = s.window := rfl
@[simp] theorem State.accept_pt (v : Word) (s : State) : (s.accept v).pt = s.pt := rfl
@[simp] theorem State.accept_status (v : Word) (s : State) : (s.accept v).status = s.status.setBusy true := rfl
@[simp] theorem State.accept_widx (v : Word) (s : State) : (s.accept v).widx = s.widx := rfl
@[simp] theorem State.accept_lop (v : Word) (s : State) : (s.accept v).lop = v := rfl
@[simp] theorem State.accept_la (v : Word) (s : State) : (s.accept v).la = s.opa := rfl
@[simp] theorem State.accept_lb (v : Word) (s : State) : (s.accept v).lb = s.opb := rfl
@[simp] theorem State.accept_engineDelay (v : Word) (s : State) : (s.accept v).engineDelay = Config.freeEngineDelay s.draws := rfl
@[simp] theorem State.accept_outstanding (v : Word) (s : State) : (s.accept v).outstanding = s.outstanding := rfl
@[simp] theorem State.accept_rspDelay (v : Word) (s : State) : (s.accept v).rspDelay = s.rspDelay := rfl
@[simp] theorem State.accept_reqStall (v : Word) (s : State) : (s.accept v).reqStall = s.reqStall := rfl
@[simp] theorem State.accept_wasReset (v : Word) (s : State) : (s.accept v).wasReset = s.wasReset := rfl
@[simp] theorem State.accept_rst (v : Word) (s : State) : (s.accept v).rst = s.rst := rfl
@[simp] theorem State.accept_host (v : Word) (s : State) : (s.accept v).host = s.host := rfl
@[simp] theorem State.accept_pc (v : Word) (s : State) : (s.accept v).pc = s.pc := rfl
@[simp] theorem State.accept_responses (v : Word) (s : State) : (s.accept v).responses = s.responses := rfl
@[simp] theorem State.accept_draws (v : Word) (s : State) : (s.accept v).draws = s.draws + 1 := rfl

@[simp] theorem State.tick_cfg (s : State) : s.tick.cfg = s.cfg := rfl
@[simp] theorem State.tick_opa (s : State) : s.tick.opa = s.opa := rfl
@[simp] theorem State.tick_opb (s : State) : s.tick.opb = s.opb := rfl
@[simp] theorem State.tick_result (s : State) : s.tick.result = s.result := rfl
@[simp] theorem State.tick_hash (s : State) : s.tick.hash = s.hash := rfl
@[simp] theorem State.tick_window (s : State) : s.tick.window = s.window := rfl
@[simp] theorem State.tick_pt (s : State) : s.tick.pt = s.pt := rfl
@[simp] theorem State.tick_status (s : State) : s.tick.status = s.status := rfl
@[simp] theorem State.tick_widx (s : State) : s.tick.widx = s.widx := rfl
@[simp] theorem State.tick_lop (s : State) : s.tick.lop = s.lop := rfl
@[simp] theorem State.tick_la (s : State) : s.tick.la = s.la := rfl
@[simp] theorem State.tick_lb (s : State) : s.tick.lb = s.lb := rfl
@[simp] theorem State.tick_engineDelay (s : State) : s.tick.engineDelay = s.engineDelay - 1 := rfl
@[simp] theorem State.tick_outstanding (s : State) : s.tick.outstanding = s.outstanding := rfl
@[simp] theorem State.tick_rspDelay (s : State) : s.tick.rspDelay = s.rspDelay := rfl
@[simp] theorem State.tick_reqStall (s : State) : s.tick.reqStall = s.reqStall - 1 := rfl
@[simp] theorem State.tick_wasReset (s : State) : s.tick.wasReset = s.wasReset := rfl
@[simp] theorem State.tick_rst (s : State) : s.tick.rst = rstTick s.rst := rfl
@[simp] theorem State.tick_host (s : State) : s.tick.host = s.host := rfl
@[simp] theorem State.tick_pc (s : State) : s.tick.pc = s.pc := rfl
@[simp] theorem State.tick_responses (s : State) : s.tick.responses = s.responses := rfl
@[simp] theorem State.tick_draws (s : State) : s.tick.draws = s.draws := rfl

@[simp] theorem State.withCommand_cfg (v : Word) (s : State) : (s.withCommand v).cfg = s.cfg := rfl
@[simp] theorem State.withCommand_opa (v : Word) (s : State) : (s.withCommand v).opa = s.opa := rfl
@[simp] theorem State.withCommand_opb (v : Word) (s : State) : (s.withCommand v).opb = s.opb := rfl
@[simp] theorem State.withCommand_result (v : Word) (s : State) : (s.withCommand v).result = s.result := rfl
@[simp] theorem State.withCommand_hash (v : Word) (s : State) : (s.withCommand v).hash = s.hash := rfl
@[simp] theorem State.withCommand_window (v : Word) (s : State) : (s.withCommand v).window = s.window := rfl
@[simp] theorem State.withCommand_pt (v : Word) (s : State) : (s.withCommand v).pt = s.pt := rfl
@[simp] theorem State.withCommand_status (v : Word) (s : State) : (s.withCommand v).status = s.status.setBusy true := rfl
@[simp] theorem State.withCommand_widx (v : Word) (s : State) : (s.withCommand v).widx = s.widx := rfl
@[simp] theorem State.withCommand_lop (v : Word) (s : State) : (s.withCommand v).lop = v := rfl
@[simp] theorem State.withCommand_la (v : Word) (s : State) : (s.withCommand v).la = s.opa := rfl
@[simp] theorem State.withCommand_lb (v : Word) (s : State) : (s.withCommand v).lb = s.opb := rfl
@[simp] theorem State.withCommand_engineDelay (v : Word) (s : State) : (s.withCommand v).engineDelay = 0 := rfl
@[simp] theorem State.withCommand_outstanding (v : Word) (s : State) : (s.withCommand v).outstanding = s.outstanding := rfl
@[simp] theorem State.withCommand_rspDelay (v : Word) (s : State) : (s.withCommand v).rspDelay = s.rspDelay := rfl
@[simp] theorem State.withCommand_reqStall (v : Word) (s : State) : (s.withCommand v).reqStall = s.reqStall := rfl
@[simp] theorem State.withCommand_wasReset (v : Word) (s : State) : (s.withCommand v).wasReset = true := rfl
@[simp] theorem State.withCommand_rst (v : Word) (s : State) : (s.withCommand v).rst = rstPutOff s.rst := rfl
@[simp] theorem State.withCommand_host (v : Word) (s : State) : (s.withCommand v).host = s.host := rfl
@[simp] theorem State.withCommand_pc (v : Word) (s : State) : (s.withCommand v).pc = s.pc := rfl
@[simp] theorem State.withCommand_responses (v : Word) (s : State) : (s.withCommand v).responses = s.responses := rfl
@[simp] theorem State.withCommand_draws (v : Word) (s : State) : (s.withCommand v).draws = s.draws := rfl

@[simp] theorem Status.setBusy_busy (b : Bool) (st : Status) : (st.setBusy b).busy = b := rfl
@[simp] theorem Status.setBusy_get (b : Bool) (f : FaultBit) (st : Status) : (st.setBusy b).get f = st.get f := by
  cases f <;> rfl
@[simp] theorem Status.setBusy_err (b : Bool) (st : Status) : (st.setBusy b).err = st.err := rfl
@[simp] theorem Status.set_busy (f : FaultBit) (st : Status) : (st.set f).busy = st.busy := by
  cases f <;> rfl
@[simp] theorem Status.get_set_self (f : FaultBit) (st : Status) : (st.set f).get f = true := by
  cases f <;> rfl

/-- Setting one fault bit leaves the others (R178). -/
theorem Status.get_set_of_ne (f g : FaultBit) (st : Status) (h : f ≠ g) : (st.set f).get g = st.get g := by
  cases f <;> cases g <;> first | rfl | exact absurd rfl h

/-- A set fault bit stays set when any bit is set (R178). -/
theorem Status.get_set_of_get (f g : FaultBit) (st : Status) (h : st.get g = true) : (st.set f).get g = true := by
  cases f <;> cases g <;> first | rfl | exact h

end Sys2Proof.Machine
end

