-- ==== Sys2Proof/Laws/Bus.lean ====
section
/-! SUPPORT. What an access and a move of the bus can do, said once (R58 to R62, R201). -/

namespace Sys2Proof.Machine

/-- A read changes nothing but the count of draws (R58). -/
theorem readReg_frame (r : Reg) (s : State) : (readReg r s).1 = { s with draws := (readReg r s).1.draws } := by
  have h : ∀ v, (readSettled v s).1 = { s with draws := (readSettled v s).1.draws } := by
    intro v
    unfold readSettled
    split <;> rfl
  cases r <;> first | rfl | exact h _

/-- A write changes OPA, OPB, WIDX, or what the acceptance of a command changes, and nothing else (R59, R62). -/
theorem writeReg_frame {r : Reg} {v : Word} {s t : State} (h : writeReg r v s = some t) :
    t = { s with opa := t.opa, opb := t.opb, widx := t.widx, status := t.status, lop := t.lop, la := t.la, lb := t.lb,
                 engineDelay := t.engineDelay, draws := t.draws } := by
  cases r <;> simp only [writeReg, Option.some.injEq, reduceCtorEq] at h <;> subst h <;> try rfl
  unfold writeCmd
  split <;> rfl

/-- The most an access can change (R58 to R62); the window, HASH, RESULT and the power table are not among it (R37). -/
theorem perform_frame (r : Request) (s : State) :
    (perform r s).1 =
      { s with opa := (perform r s).1.opa, opb := (perform r s).1.opb, widx := (perform r s).1.widx,
               status := (perform r s).1.status, lop := (perform r s).1.lop, la := (perform r s).1.la,
               lb := (perform r s).1.lb, engineDelay := (perform r s).1.engineDelay, draws := (perform r s).1.draws } := by
  unfold perform
  split
  · rfl
  · split
    · rfl
    · split
      · split
        · rfl
        · next h => exact writeReg_frame h
      · rw [readReg_frame]

/-- The register at a register's own offset is that register (R57). -/
theorem ofOffset_offset (r : Reg) : Reg.ofOffset r.offset = some r := by
  cases r <;> decide

/-- Every register's offset is a multiple of 8 (R57). -/
theorem offset_aligned (r : Reg) : (r.offset.extractLsb' 0 3 == 0#3) = true := by
  cases r <;> decide

/-- A well-shaped read of a register answers what the register's rule says. -/
theorem perform_readRequest (r : Reg) (s : State) :
    perform (readRequest r) s = ((readReg r s).1, okResponse (readReg r s).2) := by
  have h : wellShaped (readRequest r) = true := by simp [wellShaped, readRequest, readAt, offset_aligned]
  unfold perform
  rw [if_neg (by rw [h]; simp), show (readRequest r).addr = r.offset from rfl, ofOffset_offset]
  rfl

/-- A well-shaped write to a register is stored, starts or discards a command, or is refused (R59, R60, R62). -/
theorem perform_writeRequest (r : Reg) (v : Word) (s : State) :
    perform (writeRequest r v) s =
      match writeReg r v s with
      | none   => (s, busError)
      | some t => (t, okResponse 0#64) := by
  have h : wellShaped (writeRequest r v) = true := by simp [wellShaped, writeRequest, writeAt, offset_aligned]
  unfold perform
  rw [if_neg (by rw [h]; simp), show (writeRequest r v).addr = r.offset from rfl, ofOffset_offset]
  rfl

/-- Transferring a request changes what the access itself changes, and the outstanding response with its delay (R52). -/
theorem transfer_frame (r : Request) (s : State) :
    transfer r s =
      { s with opa := (perform r s).1.opa, opb := (perform r s).1.opb, widx := (perform r s).1.widx,
               status := (perform r s).1.status, lop := (perform r s).1.lop, la := (perform r s).1.la,
               lb := (perform r s).1.lb, engineDelay := (perform r s).1.engineDelay,
               outstanding := (transfer r s).outstanding, rspDelay := (transfer r s).rspDelay,
               draws := (transfer r s).draws } := by
  conv_lhs => unfold transfer; rw [perform_frame]
  rfl

/-- Everything a move of the bus can be (R51, R52, R188). -/
theorem busMove_cases (s : State) :
    (∃ rsp, s.outstanding = some rsp ∧ s.rspDelay = 0 ∧ busMove s = deliver rsp s.tick) ∨
      (∃ rsp, s.outstanding = some rsp ∧ s.rspDelay ≠ 0 ∧ busMove s = { s.tick with rspDelay := s.rspDelay - 1 }) ∨
      (∃ op, s.outstanding = none ∧ s.reqStall = 0 ∧ s.host[s.pc]? = some op ∧ busMove s = transfer op.request s.tick) ∨
      (s.outstanding = none ∧ (s.reqStall ≠ 0 ∨ s.host[s.pc]? = none) ∧ busMove s = s.tick) := by
  unfold busMove
  cases ho : s.outstanding with
  | some rsp =>
    by_cases hd : s.rspDelay = 0
    · exact .inl ⟨rsp, rfl, hd, if_pos hd⟩
    · exact .inr (.inl ⟨rsp, rfl, hd, if_neg hd⟩)
  | none =>
    cases hh : s.host[s.pc]? with
    | none => exact .inr (.inr (.inr ⟨rfl, .inr rfl, rfl⟩))
    | some op =>
      by_cases hs : s.reqStall = 0
      · exact .inr (.inr (.inl ⟨op, rfl, hs, rfl, if_pos hs⟩))
      · exact .inr (.inr (.inr ⟨rfl, .inl hs, if_neg hs⟩))

/-- A move of the bus leaves the core state alone: only a completion or a reset changes it (R37, R63). -/
theorem busMove_core (s : State) :
    (busMove s).cfg = s.cfg ∧ (busMove s).result = s.result ∧ (busMove s).hash = s.hash ∧
      (busMove s).window = s.window ∧ (busMove s).pt = s.pt := by
  rcases busMove_cases s with ⟨rsp, -, -, h⟩ | ⟨rsp, -, -, h⟩ | ⟨op, -, -, -, h⟩ | ⟨-, -, h⟩ <;> rw [h] <;>
    first | exact ⟨rfl, rfl, rfl, rfl, rfl⟩ | (rw [transfer_frame]; exact ⟨rfl, rfl, rfl, rfl, rfl⟩)

/-- Time passing and a response given leave the program alone. -/
theorem busMove_host (s : State) : (busMove s).host = s.host ∧ (busMove s).wasReset = s.wasReset := by
  rcases busMove_cases s with ⟨rsp, -, -, h⟩ | ⟨rsp, -, -, h⟩ | ⟨op, -, -, -, h⟩ | ⟨-, -, h⟩ <;> rw [h] <;>
    first | exact ⟨rfl, rfl⟩ | (rw [transfer_frame]; exact ⟨rfl, rfl⟩)

end Sys2Proof.Machine
end

