-- ==== Sys2Proof/Laws/Decode.lean ====
section
/-! SUPPORT. What the decoder can answer (R84), said once. -/

namespace Sys2Proof

/-- The checks of R84 find nothing exactly on a well-formed command. -/
theorem checkCommand_eq_none_iff (c : Config) (la : Word) (i : Instr) :
    checkCommand c la i = none ↔ i.WellFormed c la := by
  unfold checkCommand Instr.WellFormed
  cases variantAdmits c i <;> cases elementInRange c la i <;> simp

/-- `decode` answers a command exactly when the word names it and it is well formed (R84). -/
theorem decode_eq_ok_iff (c : Config) (lop la : Word) (i : Instr) :
    decode c lop la = .ok i ↔ decodeWord lop = .ok i ∧ i.WellFormed c la := by
  unfold decode
  cases hw : decodeWord lop with
  | error e => simp
  | ok j =>
    have hn := checkCommand_eq_none_iff c la j
    simp only [Except.ok.injEq]
    cases hc : checkCommand c la j with
    | some e =>
      rw [hc] at hn
      simp only [reduceCtorEq, false_iff] at hn
      simp only [reduceCtorEq, false_iff]
      rintro ⟨rfl, hwf⟩
      exact hn hwf
    | none =>
      have hwf := hn.1 hc
      simp only [Except.ok.injEq]
      exact ⟨fun h => ⟨h, h ▸ hwf⟩, fun h => h.1⟩

/-- A word with a reserved bit set decodes to no command (R85). -/
theorem decodeWord_reserved (w : Word) (h : reservedField w ≠ 0#56) : decodeWord w = .error .reservedBits := by
  simp [decodeWord, h]

/-- A word is its two fields (R80). -/
theorem word_eq_fields (w : Word) : w = reservedField w ++ opcodeField w := by
  apply BitVec.eq_of_getLsbD_eq
  intro i hi
  simp only [BitVec.getLsbD_append, reservedField, opcodeField, BitVec.getLsbD_extractLsb']
  by_cases h : i < 8
  · simp [h]
  · have h1 : i - 8 < 56 := by omega
    have h2 : 8 + (i - 8) = i := by omega
    simp [h, h1, h2]

end Sys2Proof
end

