-- ==== Sys2Proof/Laws/Operands.lean ====
section
/-! SUPPORT. The modular units answer residues (R100), and the window's polynomial taken apart at either end (R135 to R141). -/

namespace Sys2Proof.Machine

/-- `zext64` is exact below `2^64`. -/
theorem zext64_toNat {n : Nat} (h : n < 2 ^ 64) : (zext64 n).toNat = n := by
  rw [zext64, BitVec.toNat_ofNat, Nat.mod_eq_of_lt h]

/-- MOD is positive in a legal configuration. -/
theorem mod_pos {c : Config} (h : c.Legal) : 0 < c.mod := h.1.pos

/-- MOD, and so every residue, fits a register (R8). -/
theorem mod_lt_word {c : Config} (h : c.Legal) : c.mod < 2 ^ 64 := by
  have h1 := h.2.2.2.1
  have h2 : c.mod ≤ c.mod * c.mod := Nat.le_mul_of_pos_left _ h.1.pos
  omega

/-- A residue is written to a register unchanged (R23, R24). -/
theorem zext64_mod {c : Config} (h : c.Legal) (n : Nat) : (zext64 (n % c.mod)).toNat = n % c.mod :=
  zext64_toNat (lt_trans (Nat.mod_lt _ (mod_pos h)) (mod_lt_word h))

theorem red_lt {c : Config} (h : c.Legal) (v : Word) : red c v < c.mod := Nat.mod_lt _ (mod_pos h)
theorem modAdd_lt {c : Config} (h : c.Legal) (a b : Nat) : modAdd c a b < c.mod := Nat.mod_lt _ (mod_pos h)
theorem modSub_lt {c : Config} (h : c.Legal) (a b : Nat) : modSub c a b < c.mod := Nat.mod_lt _ (mod_pos h)
theorem modMul_lt {c : Config} (h : c.Legal) (a b : Nat) : modMul c a b < c.mod := Nat.mod_lt _ (mod_pos h)

/-- An element that passes the range check of R88 is the whole of LA. -/
theorem elementOf_toNat (c : Config) (la : Word) (h : la.toNat < 2 ^ c.elemW) : elementOf c la = la := by
  simp [elementOf, zext64, Nat.mod_eq_of_lt h]

@[simp] theorem windowSum_nil (c : Config) : windowSum c [] = 0 := by simp [windowSum]

/-- The front element has the weight `BASE^len` over the rest (R141). -/
theorem windowSum_cons (c : Config) (x : Word) (w : List Word) :
    windowSum c (x :: w) = x.toNat * c.base ^ w.length + windowSum c w := by
  simp only [windowSum, List.length_cons]
  rw [Finset.sum_range_succ']
  simp only [List.getD_cons_succ, List.getD_cons_zero]
  rw [add_comm]
  congr 1
  apply Finset.sum_congr rfl
  intro i hi
  have h : w.length + 1 - 1 - (i + 1) = w.length - 1 - i := by omega
  rw [h]

/-- Appending at the back multiplies the polynomial by BASE and adds the element (R135). -/
theorem windowSum_append_one (c : Config) (w : List Word) (x : Word) :
    windowSum c (w ++ [x]) = windowSum c w * c.base + x.toNat := by
  induction w with
  | nil => simp [windowSum_cons]
  | cons y w ih =>
    simp only [List.cons_append, windowSum_cons, ih, List.length_append, List.length_singleton, pow_succ]
    ring

end Sys2Proof.Machine
end

