-- ==== Sys2Proof/Laws/Ops.lean ====
section
/-! SUPPORT. What each shared operation can do, said once: the legality check (R84), growth of the power table (R133), and
every command's answer. -/

namespace Sys2Proof.Machine

/-- A command that is well formed runs its body. -/
theorem ifLegal_of_wellFormed {i : Instr} {s : State} (h : i.WellFormed s.cfg s.la) (body : State → State) :
    ifLegal i s body = .next (body s) := by
  simp [ifLegal, (checkCommand_eq_none_iff s.cfg s.la i).2 h]

/-- A command that is not well formed raises ILL and does nothing else (R173, R174). -/
theorem ifLegal_of_not_wellFormed {i : Instr} {s : State} (h : ¬ i.WellFormed s.cfg s.la) (body : State → State) :
    ifLegal i s body = .next (s.fail .ill) := by
  unfold ifLegal
  cases hc : checkCommand s.cfg s.la i with
  | none => exact absurd ((checkCommand_eq_none_iff _ _ _).1 hc) h
  | some e => rfl

/-- The legality check lets the body run or raises ILL; nothing else. -/
theorem ifLegal_cases {i : Instr} {s t : State} {body : State → State} (h : ifLegal i s body = .next t) :
    (i.WellFormed s.cfg s.la ∧ t = body s) ∨ (¬ i.WellFormed s.cfg s.la ∧ t = s.fail .ill) := by
  by_cases hw : i.WellFormed s.cfg s.la
  · rw [ifLegal_of_wellFormed hw] at h
    cases h
    exact .inl ⟨hw, rfl⟩
  · rw [ifLegal_of_not_wellFormed hw] at h
    cases h
    exact .inr ⟨hw, rfl⟩

/-- The legality check always lets the command complete. -/
theorem ifLegal_next (i : Instr) (s : State) (body : State → State) : ∃ t, ifLegal i s body = .next t := by
  unfold ifLegal
  cases checkCommand s.cfg s.la i with
  | none => exact ⟨_, rfl⟩
  | some e => exact ⟨_, rfl⟩

/-- `n` runs of the loop body add `n` entries (R133). -/
theorem growTable_length (c : Config) (d n : Nat) (pt : List Word) : (growTable c d n pt).length = pt.length + n := by
  induction n generalizing pt with
  | zero => rfl
  | succ n ih =>
    rw [growTable, ih, List.length_append, List.length_singleton]
    omega

/-- Growth keeps every entry there is (R29). -/
theorem growTable_prefix (c : Config) (d n : Nat) (pt : List Word) : pt <+: growTable c d n pt := by
  induction n generalizing pt with
  | zero => exact List.prefix_refl pt
  | succ n ih => exact (List.prefix_append pt _).trans (ih _)

/-- `grow()` changes the power table alone. -/
theorem State.grow_frame (s : State) : s.grow = s.setTable s.grow.pt := by
  unfold State.grow
  cases s.cfg.ptMode <;> rfl

/-- The table after `grow()` (R133). -/
theorem State.grow_pt (s : State) :
    s.grow.pt = match s.cfg.ptMode with
      | .rom   => s.pt
      | .grown => growTable s.cfg s.draws (s.window.length + 1 - s.pt.length) s.pt := by
  unfold State.grow
  cases s.cfg.ptMode <;> rfl

/-- `grow()` keeps every entry there is (R29). -/
theorem State.grow_pt_prefix (s : State) : s.pt <+: s.grow.pt := by
  rw [State.grow_pt]
  cases s.cfg.ptMode with
  | rom => exact List.prefix_refl _
  | grown => exact growTable_prefix _ _ _ _

end Sys2Proof.Machine
end

