-- ==== Sys2Proof/Laws/Exec.lean ====
section
/-! SUPPORT. What running a command can do, said once for all twelve (R39, R171). -/

namespace Sys2Proof.Machine

/-- The body of each command, which runs when R84 finds it legal. -/
def commandBody (i : Instr) : State → State :=
  match i with
  | .nop => nopBody
  | .mred => mredBody
  | .madd => maddBody
  | .msub => msubBody
  | .mmul => mmulBody
  | .mdiv => mdivBody
  | .minv => minvBody
  | .appb => appbBody
  | .remf => remfBody
  | .remb => rembBody
  | .appf => appfBody
  | .clear => clearBody

/-- Every command is its body behind the legality check of R84. -/
theorem exec_eq (i : Instr) (s : State) : exec i s = ifLegal i s (commandBody i) := by
  cases i <;> rfl

/-- Every command completes (R201). -/
theorem exec_next (i : Instr) (s : State) : ∃ t, exec i s = .next t := by
  rw [exec_eq]
  exact ifLegal_next _ _ _

/-- A well-formed command runs its body. -/
theorem exec_of_wellFormed {i : Instr} {s : State} (h : i.WellFormed s.cfg s.la) :
    exec i s = .next (commandBody i s) := by
  rw [exec_eq, ifLegal_of_wellFormed h]

/-- A command that is not well formed raises ILL and changes nothing else (R173, R174). -/
theorem exec_of_not_wellFormed {i : Instr} {s : State} (h : ¬ i.WellFormed s.cfg s.la) :
    exec i s = .next (s.fail .ill) := by
  rw [exec_eq, ifLegal_of_not_wellFormed h]

/-- What running a command can be: its body, or ILL. -/
theorem exec_cases {i : Instr} {s t : State} (h : exec i s = .next t) :
    (i.WellFormed s.cfg s.la ∧ t = commandBody i s) ∨ (¬ i.WellFormed s.cfg s.la ∧ t = s.fail .ill) := by
  rw [exec_eq] at h
  exact ifLegal_cases h

/-- The most a command's body can change (R39). -/
theorem commandBody_frame (i : Instr) (s : State) :
    commandBody i s =
      { s with result := (commandBody i s).result, hash := (commandBody i s).hash, window := (commandBody i s).window,
               pt := (commandBody i s).pt, status := (commandBody i s).status } := by
  cases i <;> try rfl
  case mdiv =>
    simp only [commandBody, mdivBody]
    split <;> rfl
  case minv =>
    simp only [commandBody, minvBody]
    split <;> rfl
  case appb =>
    simp only [commandBody, appbBody]
    split
    · rfl
    · rw [State.grow_frame]
      rfl
  case remf =>
    simp only [commandBody, remfBody]
    split <;> rfl
  case remb =>
    simp only [commandBody, rembBody]
    split <;> rfl
  case appf =>
    simp only [commandBody, appfBody]
    split
    · rfl
    · rw [State.grow_frame]
      rfl

/-- The most a command can change: RESULT, HASH, the window, the power table and STATUS (R39). -/
theorem exec_frame {i : Instr} {s t : State} (h : exec i s = .next t) :
    t = { s with result := t.result, hash := t.hash, window := t.window, pt := t.pt, status := t.status } := by
  rcases exec_cases h with ⟨-, rfl⟩ | ⟨-, rfl⟩
  · exact commandBody_frame i s
  · rfl

end Sys2Proof.Machine
end

