-- ==== Sys2Proof/Laws/PerInstr.lean ====
section
/-! SUPPORT. Statements about each command as syntax, one lemma per constructor. -/

namespace Sys2Proof.Laws.ReservedZero

/-- The command word a mnemonic writes has RSVD = 0 (R91) and its opcode in one of the two groups of R83. -/
def Statement (i : Instr) : Prop :=
  reservedField (encode i) = 0#56 ∧ opcodeField (encode i) < 0x20#8

theorem nop : Statement .nop := by unfold Statement; decide
theorem mred : Statement .mred := by unfold Statement; decide
theorem madd : Statement .madd := by unfold Statement; decide
theorem msub : Statement .msub := by unfold Statement; decide
theorem mmul : Statement .mmul := by unfold Statement; decide
theorem mdiv : Statement .mdiv := by unfold Statement; decide
theorem minv : Statement .minv := by unfold Statement; decide
theorem appb : Statement .appb := by unfold Statement; decide
theorem remf : Statement .remf := by unfold Statement; decide
theorem remb : Statement .remb := by unfold Statement; decide
theorem appf : Statement .appf := by unfold Statement; decide
theorem clear : Statement .clear := by unfold Statement; decide

end Sys2Proof.Laws.ReservedZero
end

