-- ==== Sys2Proof/Laws/Prime.lean ====
section
/-! SUPPORT. The reference MOD is prime, by trial division (R6), so the reference parameter set is legal (R14). -/

namespace Sys2Proof

/-- No number among the `2^k` numbers from `lo` on divides `n`, by halving, so that the check is shallow. -/
def noDivisorIn (n : Nat) : Nat → Nat → Bool
  | 0, lo => n % lo != 0
  | k + 1, lo => noDivisorIn n k lo && noDivisorIn n k (lo + 2 ^ k)

/-- What the check says. -/
theorem not_dvd_of_noDivisorIn (n k lo : Nat) (h : noDivisorIn n k lo = true) :
    ∀ d, lo ≤ d → d < lo + 2 ^ k → ¬ d ∣ n := by
  induction k generalizing lo with
  | zero =>
    intro d h1 h2 hd
    have hlo : d = lo := by simp at h2; omega
    subst hlo
    simp [noDivisorIn, Nat.mod_eq_zero_of_dvd hd] at h
  | succ k ih =>
    intro d h1 h2
    rw [noDivisorIn, Bool.and_eq_true] at h
    rw [pow_succ] at h2
    rcases Nat.lt_or_ge d (lo + 2 ^ k) with hd | hd
    · exact ih lo h.1 d h1 hd
    · exact ih (lo + 2 ^ k) h.2 d hd (by omega)

/-- Trial division of 1_000_000_007 by 2 to 32769, which is past its square root. -/
theorem reference_trial_division : noDivisorIn 1000000007 15 2 = true := by decide +kernel

/-- The reference MOD is prime (R6). -/
theorem reference_mod_prime : Nat.Prime Config.reference.mod := by
  refine Nat.prime_def_le_sqrt.2 ⟨by decide, fun d h1 h2 => ?_⟩
  refine not_dvd_of_noDivisorIn 1000000007 15 2 reference_trial_division d h1 ?_
  have h3 : d * d ≤ 1000000007 := Nat.le_sqrt.1 h2
  by_contra h4
  have h5 : 32770 * 32770 ≤ d * d := Nat.mul_le_mul (by omega) (by omega)
  omega

/-- The reference parameter set is legal (R14). -/
theorem reference_legal : Config.reference.Legal :=
  ⟨reference_mod_prime, by decide, by decide, by decide, by decide, by decide, by decide⟩

end Sys2Proof
end

