-- ==== Sys2Proof/Laws/Step.lean ====
section
/-! SUPPORT. What a step can be, said once (R18): a reset edge, a completion, or a move of the bus. -/

namespace Sys2Proof.Machine

/-- What the completion step can be (R84, R201). -/
theorem complete_cases {s t : State} (h : complete s = .next t) :
    ((∃ e, decode s.cfg s.lop s.la = .error e) ∧ t = s.fail .ill) ∨
      ∃ i, decode s.cfg s.lop s.la = .ok i ∧ exec i s = .next t := by
  unfold complete at h
  cases hd : decode s.cfg s.lop s.la with
  | error e =>
    rw [hd] at h
    cases h
    exact .inl ⟨⟨e, rfl⟩, rfl⟩
  | ok i =>
    rw [hd] at h
    exact .inr ⟨i, rfl, h⟩

/-- Everything a step that answers a next state can be. -/
theorem step_cases {s t : State} (h : step s = .next t) :
    (resetDue s = true ∧ t = resetMove s) ∨
      (resetDue s = false ∧ s.wasReset = true ∧ completionDue s = true ∧ complete s = .next t) ∨
      (resetDue s = false ∧ s.wasReset = true ∧ completionDue s = false ∧ t = busMove s) := by
  unfold step at h
  cases hr : resetDue s <;> cases hw : s.wasReset <;> cases hc : completionDue s <;> simp_all

/-- The parameters never change (R6 to R14). -/
theorem step_cfg {s t : State} (h : step s = .next t) : t.cfg = s.cfg := by
  rcases step_cases h with ⟨-, rfl⟩ | ⟨-, -, -, hc⟩ | ⟨-, -, -, rfl⟩
  · rfl
  · rcases complete_cases hc with ⟨-, rfl⟩ | ⟨i, -, he⟩
    · rfl
    · rw [exec_frame he]
  · exact (busMove_core s).1

end Sys2Proof.Machine
end

