-- ==== Sys2Proof/Tests/Slice0.lean ====
section
/-! SUPPORT. The model's own tests: expected values are spec/95_test_vectors.md's, or the encoding tables of spec/. -/

namespace Sys2Proof.Tests

open Sys2Proof.Machine

/-- The answer is a next state and `p` holds of it. -/
def leaves (a : Answer) (p : State → Bool) : Bool :=
  match a with
  | .next t    => p t
  | .fault _   => false
  | .refused _ => false

/-- After reset, with the operand latches given. -/
def withLatches (la lb : Word) : State := { State.reset with la := la, lb := lb }

/-- A window with its hash and table, and LA (the "state before" of section 2.2). -/
def withWindow (w : List Word) (hash : Word) (pt : List Word) (la : Word) : State :=
  { State.reset with window := w, hash := hash, pt := pt, la := la }

/-- The constants `PT[0], …, PT[5]` of 95_test_vectors.md. -/
def pt6 : List Word := [1, 257, 66049, 16974593, 362470373, 154885210]

/-- "Eiger". -/
def eiger : List Word := [69, 105, 103, 101, 114]

-- Words of the opcode table written out from R80 and R83: 56 zero bits of RSVD, then OPCODE.

theorem test_decode_nop : decodeWord ((0#56) ++ (0b00000000#8)) = .ok .nop := by decide
theorem test_decode_mred : decodeWord ((0#56) ++ (0b00000001#8)) = .ok .mred := by decide
theorem test_decode_madd : decodeWord ((0#56) ++ (0b00000010#8)) = .ok .madd := by decide
theorem test_decode_msub : decodeWord ((0#56) ++ (0b00000011#8)) = .ok .msub := by decide
theorem test_decode_mmul : decodeWord ((0#56) ++ (0b00000100#8)) = .ok .mmul := by decide
theorem test_decode_mdiv : decodeWord ((0#56) ++ (0b00000101#8)) = .ok .mdiv := by decide
theorem test_decode_minv : decodeWord ((0#56) ++ (0b00000110#8)) = .ok .minv := by decide
theorem test_decode_appb : decodeWord ((0#56) ++ (0b00010000#8)) = .ok .appb := by decide
theorem test_decode_remf : decodeWord ((0#56) ++ (0b00010001#8)) = .ok .remf := by decide
theorem test_decode_remb : decodeWord ((0#56) ++ (0b00010010#8)) = .ok .remb := by decide
theorem test_decode_appf : decodeWord ((0#56) ++ (0b00010011#8)) = .ok .appf := by decide
theorem test_decode_clear : decodeWord ((0#56) ++ (0b00011111#8)) = .ok .clear := by decide
/-- V-ENC-1, V-ENC-2. -/
theorem test_decode_unassigned : [0x07#64, 0x0F#64, 0x14#64, 0x1E#64, 0x20#64, 0xFF#64].map decodeWord =
    List.replicate 6 (.error .unassigned) := by decide
/-- V-ENC-3, V-ENC-4, V-NOP-2. -/
theorem test_decode_reserved : [0x110#64, 0x8000000000000002#64, 0x100#64].map decodeWord =
    List.replicate 3 (.error .reservedBits) := by decide
theorem test_decode_table_words : decodeTableWord 64 0x13 = some .appf ∧ decodeTableWord 64 0x110 = none := by decide

-- Well-formedness: an ill-formed command for each check.

theorem test_wf_variant : ¬ Instr.remb.WellFormed { Config.reference with variant := .reduced } 0 := by decide
theorem test_wf_element : ¬ Instr.appb.WellFormed { Config.reference with elemW := 8 } 256 := by decide
theorem test_wf_ok : Instr.appf.WellFormed { Config.reference with elemW := 8 } 255 := by decide
/-- R180: the variant is checked before the element. -/
theorem test_decode_priority :
    decode { Config.reference with variant := .reduced, elemW := 8 } 0x13 256 = .error .notInVariant := by decide

-- Modular arithmetic (section 2.1).

/-- V-MRED-4. -/
theorem test_mred : leaves (exec .mred (withLatches 18446744073709551615 0)) (fun t => t.result == 582344007) := by decide
/-- V-MADD-1. -/
theorem test_madd_largest : leaves (exec .madd (withLatches 1000000006 1000000006)) (fun t => t.result == 1000000005) := by
  decide
/-- V-MADD-2. -/
theorem test_madd_wraps : leaves (exec .madd (withLatches 500000003 500000004)) (fun t => t.result == 0) := by decide
/-- V-MSUB-1. -/
theorem test_msub_borrow : leaves (exec .msub (withLatches 3 5)) (fun t => t.result == 1000000005) := by decide
/-- V-MSUB-5. -/
theorem test_msub_reduces : leaves (exec .msub (withLatches 0 18446744073709551615)) (fun t => t.result == 417656000) := by
  decide
/-- V-MMUL-2. -/
theorem test_mmul : leaves (exec .mmul (withLatches 18446744073709551615 18446744073709551615))
    (fun t => t.result == 114944269) := by decide
/-- V-MINV-7. -/
theorem test_minv : leaves (exec .minv (withLatches 18446744073709551615 0)) (fun t => t.result == 627792118) := by decide
/-- V-MINV-9: DZ, RESULT unchanged. -/
theorem test_minv_dz : leaves (exec .minv { withLatches 1000000007 0 with result := 5 })
    (fun t => t.result == 5 && t.status.word == 0x4) := by decide
/-- V-MDIV-3. -/
theorem test_mdiv : leaves (exec .mdiv (withLatches 2 3)) (fun t => t.result == 666666672) := by decide
/-- V-MDIV-8: DZ whatever the dividend. -/
theorem test_mdiv_dz : leaves (exec .mdiv (withLatches 0 1000000007)) (fun t => t.status.word == 0x4) := by decide

-- Rolling hash (section 2.2).

/-- V-APPB-6: the multiply-add wraps; the element is stored, the table grows. -/
theorem test_appb : leaves (exec .appb (withWindow [929961096] 929961096 [1, 257] 5))
    (fun t => t.hash == 4 && t.window == [929961096, 5] && t.pt == [1, 257, 66049]) := by decide
/-- V-APPB-4: an element of MOD or more is stored unreduced. -/
theorem test_appb_unreduced : leaves (exec .appb (withWindow [] 0 [1] 4294967295))
    (fun t => t.hash == 294967267 && t.window == [4294967295] && t.pt == [1, 257]) := by decide
/-- V-REMF-4: the subtraction wraps through MOD. -/
theorem test_remf : leaves (exec .remf (withWindow [71, 114, 101, 97, 116] 677195890 pt6 0))
    (fun t => t.hash == 941799589 && t.window == [114, 101, 97, 116] && t.pt == pt6) := by decide
/-- V-REMF-5: a no-op on the empty window. -/
theorem test_remf_empty : leaves (exec .remf State.reset) (fun t => t == State.reset) := by decide
/-- V-REMB-2. -/
theorem test_remb : leaves (exec .remb (withWindow eiger 799616938 pt6 0))
    (fun t => t.hash == 178208627 && t.window == [69, 105, 103, 101] && t.pt == pt6) := by decide
/-- V-REMB-RED: ILL even on the empty window. -/
theorem test_remb_reduced : leaves (exec .remb { State.reset with cfg := { Config.reference with variant := .reduced } })
    (fun t => t.status.word == 0x2) := by decide
/-- V-APPF-4: the final add wraps. -/
theorem test_appf : leaves (exec .appf (withWindow [5] 5 [1, 257] 929961096))
    (fun t => t.hash == 4 && t.window == [929961096, 5] && t.pt == [1, 257, 66049]) := by decide
/-- V-APPF-OVF. -/
theorem test_appf_ovf : leaves
    (exec .appf { withWindow [7] 7 [1, 257] 8 with cfg := { Config.reference with winCap := 1 } })
    (fun t => t.hash == 7 && t.window == [7] && t.status.word == 0x8) := by decide

-- Control (section 2.3).

/-- V-NOP-1. -/
theorem test_nop : leaves (exec .nop (withLatches 1 2)) (fun t => t == withLatches 1 2) := by decide
/-- V-CLR-1, V-CLR-3: the fault bits stay. -/
theorem test_clear : leaves
    (exec .clear { withWindow eiger 799616938 pt6 0 with status := { Status.clear with busy := true, dz := true } })
    (fun t => t.hash == 0 && t.window == [] && t.pt == [1] && t.status.word == 0x4) := by decide
/-- V-ROM-3: CLEAR keeps PLEN in ROM mode. -/
theorem test_clear_rom : leaves (exec .clear (State.init { Config.reference with ptMode := .rom }))
    (fun t => t.pt.length == 17) := by decide

-- The bus (section 2.4).

/-- V-BUS-1: a write to HASH. -/
theorem test_bus_readonly : perform (writeRequest .hash 5) State.reset = (State.reset, busError) := by decide
/-- V-BUS-2, V-BUS-3, V-BUS-4: reserved, misaligned, narrow. -/
theorem test_bus_refused :
    [(⟨false, 0x70, 3, 0⟩ : Request), ⟨false, 0xF8, 3, 0⟩, ⟨false, 0x0C, 3, 0⟩, ⟨true, 0x08, 2, 1⟩].map
      (fun r => perform r State.reset) = List.replicate 4 (State.reset, busError) := by decide
/-- V-BUS-5. -/
theorem test_bus_read_cmd : (perform (readRequest .cmd) State.reset).2 = okResponse 0 := by decide
/-- V-BUS-6. -/
theorem test_byte_lanes : byteLane 0x0102030405060708 0 = 0x08 ∧ byteLane 0x0102030405060708 7 = 0x01 := by decide
/-- V-CFG-1 and V-CFG-3. -/
theorem test_config : configWord Config.reference = 0x1E20 ∧
    configWord { Config.reference with ptMode := .rom, variant := .reduced } = 0x31E20 := by decide
/-- V-WD-1: WIDX = 4, 5 and 2^64 - 1 over "Eiger". -/
theorem test_wdata : [4, 5, 18446744073709551615].map (fun i =>
    (perform (readRequest .wdata) { withWindow eiger 799616938 pt6 0 with widx := i }).2.rdata) = [114, 0, 0] := by decide
/-- P6, outcome A: a CMD write while busy sets OVR and leaves the latches. -/
theorem test_overrun : (perform (writeRequest .cmd 0x10) { State.reset with status := { Status.clear with busy := true } }).1
    = { State.reset with status := { Status.clear with busy := true, ovr := true } } := by decide

-- Steps.

/-- V-ENC-1 as a step: an unassigned word in flight completes with ILL alone. -/
theorem test_step_illegal : leaves (step (State.reset.withFetchWord 64 0x07)) (fun t => t.status.word == 0x2) := by decide
/-- The first step after placing MADD runs it (R201). -/
theorem test_step_madd : leaves (step ({ State.reset with opa := 2, opb := 3 }.withFetchWord 64 0x02))
    (fun t => t.result == 5 && t.status.word == 0) := by decide
/-- V-RST-2: reset with a command in flight. -/
theorem test_step_reset : leaves
    (step { State.reset.withFetchWord 64 0x10 with opa := 1, rst := [0] })
    (fun t => t.window == [] && t.hash == 0 && t.opa == 0 && t.status.word == 0) := by decide
/-- The step after reset with no host program is idle (R188). -/
theorem test_step_idle : leaves (step State.reset) (fun t => t == State.reset) := by decide
/-- R193. -/
theorem test_step_before_reset : step { State.reset with wasReset := false } = .fault .notReset := by rfl
/-- R92: `wait` goes on when STATUS bit 0 is 0 and reads again when it is 1. -/
theorem test_wait : [0x4, 0x5].map (fun v =>
    pcAfterResponse { State.reset with host := [.wait] } (okResponse v)) = [1, 0] := by decide
/-- R89: a register's name and its offset are one request; a reserved offset (program P5) is an access that R60 refuses; a
character literal is its scalar value. -/
theorem test_host_operands : asmRd (.name .hash) = asmRd (.offset 0x20) ∧ asmRd (.offset 0x70) = .access ⟨false, 0x70, 3, 0⟩ ∧
    perform (asmRd (.offset 0x70)).request State.reset = (State.reset, busError) ∧ asmChar 'E' = 69 := by decide
/-- R57: WLEN at 0x28 and PLEN at 0x30. -/
theorem test_register_map : [0x28, 0x30].map (fun a => (perform (readAt a) (withWindow eiger 799616938 pt6 0)).2.rdata) = [5, 6] := by decide
/-- R51: with no access left a stall ends. -/
theorem test_stall_ends : leaves (step { State.reset with reqStall := 3 }) (fun t => t.reqStall == 2) := by decide
/-- R90, R95 and program P2, row 3: `appb 97` in machine form. -/
theorem test_assembler : asmMnemonic .appb 97 0 =
    [.access ⟨true, 0x08, 3, 0x61⟩, .access ⟨true, 0x00, 3, 0x10⟩, .wait] := by decide

-- Witnesses: for each statement with hypotheses, states and operands that meet them, clause by clause.

/-- An instance with the reference MOD and BASE. -/
def instanceOf (elemW winCap : Nat) (ptMode : PtMode) (variant : Variant) : Config :=
  { Config.reference with elemW := elemW, winCap := winCap, ptMode := ptMode, variant := variant }

theorem instance_legal (e n : Nat) (m : PtMode) (v : Variant) (h : 1 ≤ e ∧ e ≤ 64 ∧ 1 ≤ n) : (instanceOf e n m v).Legal :=
  ⟨reference_mod_prime, show 0 < 257 by decide, show 257 < 1000000007 by decide,
    show 1000000007 * 1000000007 ≤ 2 ^ 64 - 1 by decide, h.1, h.2.1, h.2.2⟩

/-- A state after reset with a window, its hash and its power table, and LA. -/
def holding (c : Config) (w : List Word) (hash : Word) (pt : List Word) (la : Word) : State :=
  { State.init c with window := w, hash := hash, pt := pt, la := la }

/-- WIN_CAP = 2, GROWN, FULL, ELEM_W = 8. -/
def smallCfg : Config := instanceOf 8 2 .grown .full
/-- The same in ROM mode. -/
def romCfg : Config := instanceOf 8 2 .rom .full
/-- The same in the REDUCED variant. -/
def reducedCfg : Config := instanceOf 8 2 .grown .reduced

/-- The empty window, with LA. -/
def emptyState (c : Config) (la : Word) : State := holding c [] 0 [1] la
/-- The window [69], one below the capacity; HASH = 69. -/
def oneState (la : Word) : State := holding smallCfg [69] 69 [1, 257] la
/-- The full window [69, 105]; HASH = 69 · 257 + 105 = 17838. -/
def fullState (la : Word) : State := holding smallCfg [69, 105] 17838 [1, 257, 66049] la
/-- The full window in ROM mode. -/
def romState (la : Word) : State := holding romCfg [69, 105] 17838 [1, 257, 66049] la
/-- The full window in the REDUCED variant. -/
def reducedState (la : Word) : State := holding reducedCfg [69, 105] 17838 [1, 257, 66049] la
/-- A command word in flight after reset. -/
def inFlight (c : Config) (lop : Word) : State :=
  { State.init c with lop := lop, status := { Status.clear with busy := true } }

theorem inv_holding (c : Config) (w : List Word) (hash : Word) (pt : List Word) (la : Word) (h : c.Legal)
    (h1 : hash.toNat = windowHash c w) (h2 : w.length ≤ c.winCap ∧ w.length + 1 ≤ pt.length ∧ pt.length ≤ c.winCap + 1)
    (h3 : c.elemW = 8 ∧ w.all (fun x => decide (x.toNat < 256)) = true) (h4 : ∀ k, k < pt.length → pt[k]? = some (powerEntry c k))
    (h5 : c.ptMode = .rom → pt.length = c.winCap + 1) : BlockInv (holding c w hash pt la) :=
  ⟨h, h.1.pos, h1, h2.1, fun x hx => by
    rw [show (holding c w hash pt la).cfg.elemW = 8 from h3.1]
    exact of_decide_eq_true (List.all_eq_true.1 h3.2 x hx), h4, h2.2.1, h2.2.2, h5⟩

theorem inv_empty (la : Word) : BlockInv (emptyState smallCfg la) :=
  inv_holding _ _ _ _ _ (instance_legal _ _ _ _ (by decide)) (by decide +kernel) (by decide) (by decide) (by decide) (by decide)
theorem inv_emptyReduced (la : Word) : BlockInv (emptyState reducedCfg la) :=
  inv_holding _ _ _ _ _ (instance_legal _ _ _ _ (by decide)) (by decide +kernel) (by decide) (by decide) (by decide) (by decide)
theorem inv_one (la : Word) : BlockInv (oneState la) :=
  inv_holding _ _ _ _ _ (instance_legal _ _ _ _ (by decide)) (by decide +kernel) (by decide) (by decide) (by decide) (by decide)
theorem inv_full (la : Word) : BlockInv (fullState la) :=
  inv_holding _ _ _ _ _ (instance_legal _ _ _ _ (by decide)) (by decide +kernel) (by decide) (by decide) (by decide) (by decide)
theorem inv_rom (la : Word) : BlockInv (romState la) :=
  inv_holding _ _ _ _ _ (instance_legal _ _ _ _ (by decide)) (by decide +kernel) (by decide) (by decide) (by decide) (by decide)
theorem inv_reduced (la : Word) : BlockInv (reducedState la) :=
  inv_holding _ _ _ _ _ (instance_legal _ _ _ _ (by decide)) (by decide +kernel) (by decide) (by decide) (by decide) (by decide)

theorem witness_ReservedBitsRaiseIll :
    (inFlight smallCfg 0x100).lop.extractLsb' 8 56 ≠ 0#56 ∧
    (inFlight smallCfg 0x8000000000000002).lop.extractLsb' 8 56 ≠ 0#56 := by decide

/-- The first and last opcode of every gap of R86, and the four of REDUCED. -/
theorem witness_UnassignedOpcodesRaiseIll :
    (∀ w ∈ [0x07, 0x0F, 0x14, 0x1E, 0x20, 0xFF], let op := ((inFlight smallCfg (BitVec.ofNat 64 w)).lop.extractLsb' 0 8).toNat
      (0x07 ≤ op ∧ op ≤ 0x0F) ∨ (0x14 ≤ op ∧ op ≤ 0x1E) ∨ 0x20 ≤ op) ∧
    (∀ w ∈ [0x05, 0x06, 0x12, 0x13], let s := inFlight reducedCfg (BitVec.ofNat 64 w)
      s.cfg.variant = .reduced ∧ (let op := (s.lop.extractLsb' 0 8).toNat; op = 0x05 ∨ op = 0x06 ∨ op = 0x12 ∨ op = 0x13)) := by
  decide

/-- ELEM_W = 8 at 255 and 256, ELEM_W = 63 at 2^63, and ELEM_W = 64. -/
theorem witness_ElementRangeIsChecked :
    (smallCfg.elemW < 64 ∧ (256#64) >>> smallCfg.elemW ≠ 0#64) ∧ (smallCfg.elemW < 64 ∧ (255#64) >>> smallCfg.elemW = 0#64) ∧
    (let c := instanceOf 63 2 .grown .full; c.elemW < 64 ∧ (0x8000000000000000#64) >>> c.elemW ≠ 0#64) ∧
    (instanceOf 64 2 .grown .full).elemW = 64 ∧
    (let s := { inFlight smallCfg 0x10 with la := 256 }
     s.cfg.elemW < 64 ∧ s.la >>> s.cfg.elemW ≠ 0#64 ∧ s.lop = encode .appb) := by decide

/-- For MredReduces, MaddAdds, MsubSubtracts, MmulMultiplies. -/
theorem witness_arithmetic : (withLatches 18446744073709551615 18446744073709551615).cfg.Legal := reference_legal
theorem witness_ModpowIsPower : 2 ≤ Config.reference.mod ∧ 0 < Config.reference.mod ∧ 1000000006 < Config.reference.mod := by decide
/-- With `y = 500000004`, the inverse of 2, for the uniqueness. -/
theorem witness_InverseIsUniqueInverse : Config.reference.Legal ∧ 0 < 2 ∧ 2 < Config.reference.mod ∧
    0 < 1000000006 ∧ 1000000006 < Config.reference.mod ∧
    500000004 < Config.reference.mod ∧ 2 * 500000004 % Config.reference.mod = 1 := ⟨reference_legal, by decide⟩
/-- The residue is zero at LA = 0 and LA = MOD, not at MOD - 1; and REDUCED. -/
theorem witness_MinvInverts : (withLatches 0 0).cfg.Legal ∧ (withLatches 0 0).cfg.variant = .full ∧
    (withLatches 0 0).la.toNat % (withLatches 0 0).cfg.mod = 0 ∧
    (withLatches 1000000007 0).la.toNat % (withLatches 1000000007 0).cfg.mod = 0 ∧
    (withLatches 1000000006 0).la.toNat % (withLatches 1000000006 0).cfg.mod ≠ 0 ∧
    (reducedState 1).cfg.Legal ∧ (reducedState 1).cfg.variant = .reduced :=
  ⟨reference_legal, by decide, by decide, by decide, by decide, (inv_reduced 1).legal, by decide⟩
theorem witness_MdivDivides : (withLatches 5 0).cfg.Legal ∧ (withLatches 5 0).cfg.variant = .full ∧
    (withLatches 5 0).lb.toNat % (withLatches 5 0).cfg.mod = 0 ∧
    (withLatches 5 1000000007).lb.toNat % (withLatches 5 1000000007).cfg.mod = 0 ∧
    (withLatches 5 1000000006).lb.toNat % (withLatches 5 1000000006).cfg.mod ≠ 0 ∧
    (reducedState 1).cfg.Legal ∧ (reducedState 1).cfg.variant = .reduced :=
  ⟨reference_legal, by decide, by decide, by decide, by decide, (inv_reduced 1).legal, by decide⟩
/-- LA and LB of residue 2 and 3, beyond MOD. -/
theorem witness_ResultsAreExactResidues : (withLatches 1000000009 1000000010).cfg.Legal ∧
    (withLatches 1000000009 1000000010).cfg.variant = .full ∧
    (withLatches 1000000009 1000000010).la.toNat % (withLatches 1000000009 1000000010).cfg.mod ≠ 0 ∧
    (withLatches 1000000009 1000000010).lb.toNat % (withLatches 1000000009 1000000010).cfg.mod ≠ 0 :=
  ⟨reference_legal, by decide, by decide, by decide⟩
/-- With `a = 5`, `b = 3`: the premise of each law, with its `r`. -/
theorem witness_ArithmeticLaws : State.reset.cfg.Legal ∧ State.reset.cfg.variant = .full ∧
    resultAfter .mred State.reset 5 3 = some 5 ∧ resultAfter .madd State.reset 5 3 = some 8 ∧
    ((3#64).toNat % State.reset.cfg.mod ≠ 0 ∧ resultAfter .mmul State.reset 5 3 = some 15) ∧
    ((5#64).toNat % State.reset.cfg.mod ≠ 0 ∧ resultAfter .minv State.reset 5 3 = some 400000003) ∧
    ((3#64).toNat % State.reset.cfg.mod ≠ 0 ∧ resultAfter .minv State.reset 3 5 = some 333333336) :=
  ⟨reference_legal, by decide, by decide, by decide, by decide, by decide, by decide⟩

/-- The empty window, and each removal and push answering a next state. -/
theorem witness_EmptyRemovalsAreNoOps : (emptyState smallCfg 0).window = [] ∧ (emptyState smallCfg 0).cfg.variant = .full ∧
    (∀ i ∈ [Instr.remf, .remb], leaves (exec i (emptyState reducedCfg 0)) (fun _ => true) = true) ∧
    (∀ i ∈ [Instr.appb, .appf], leaves (exec i (fullState 7)) (fun t => t.status.ovf) = true) := by decide
/-- A table one short of the window's need, at `k = 1`; a full table; a removal. -/
theorem witness_GrowExtendsTheTable : romCfg.ptMode = .rom ∧ smallCfg.ptMode = .grown ∧
    (let s := holding smallCfg [69] 69 [1] 0
     1 ≤ s.pt.length ∧ s.pt.length ≤ 1 ∧ 1 < s.grow.pt.length ∧ s.window.length ≤ s.pt.length ∧
       s.window.length ≤ s.cfg.winCap ∧ s.pt.length ≤ s.cfg.winCap + 1) ∧
    (1 ≤ (fullState 0).pt.length ∧ (fullState 0).window.length ≤ (fullState 0).cfg.winCap) ∧
    leaves (exec .remf (fullState 0)) (fun t => t.window == [105]) = true := by decide
/-- One below the capacity, at the capacity, and an element out of range. -/
theorem witness_AppbAppendsAtBack :
    (BlockInv (oneState 255) ∧ elementInRange (oneState 255).cfg (oneState 255).la .appb = true ∧
      (oneState 255).window.length < (oneState 255).cfg.winCap) ∧
    (BlockInv (fullState 255) ∧ elementInRange (fullState 255).cfg (fullState 255).la .appb = true ∧
      (fullState 255).window.length = (fullState 255).cfg.winCap) ∧
    (BlockInv (oneState 256) ∧ elementInRange (oneState 256).cfg (oneState 256).la .appb = false) :=
  ⟨⟨inv_one _, by decide⟩, ⟨inv_full _, by decide⟩, ⟨inv_one _, by decide⟩⟩
theorem witness_RemfRemovesFront : (BlockInv (emptyState smallCfg 0) ∧ (emptyState smallCfg 0).window = []) ∧
    (BlockInv (oneState 0) ∧ (oneState 0).window = 69 :: []) ∧
    (BlockInv (fullState 0) ∧ (fullState 0).window = 69 :: [105]) :=
  ⟨⟨inv_empty _, by decide⟩, ⟨inv_one _, by decide⟩, ⟨inv_full _, by decide⟩⟩
theorem witness_RembRemovesBack :
    ((emptyState smallCfg 0).cfg.Legal ∧ (emptyState smallCfg 0).cfg.variant = .full ∧ (emptyState smallCfg 0).window = []) ∧
    ((oneState 0).cfg.Legal ∧ (oneState 0).cfg.variant = .full ∧ (oneState 0).window = [] ++ [69] ∧
      BlockInv (oneState 0)) ∧
    ((fullState 0).cfg.Legal ∧ (fullState 0).cfg.variant = .full ∧ (fullState 0).window = [69] ++ [105]) ∧
    ((reducedState 0).cfg.Legal ∧ (reducedState 0).cfg.variant = .reduced) :=
  ⟨⟨(inv_empty 0).legal, by decide⟩, ⟨(inv_one 0).legal, by decide, by decide, inv_one 0⟩,
    ⟨(inv_full 0).legal, by decide⟩, ⟨(inv_reduced 0).legal, by decide⟩⟩
/-- One below the capacity, at the capacity, an element out of range, and REDUCED. -/
theorem witness_AppfAppendsAtFront :
    (BlockInv (oneState 255) ∧ Instr.WellFormed (oneState 255).cfg (oneState 255).la .appf ∧
      (oneState 255).window.length < (oneState 255).cfg.winCap) ∧
    (BlockInv (fullState 255) ∧ Instr.WellFormed (fullState 255).cfg (fullState 255).la .appf ∧
      (fullState 255).window.length = (fullState 255).cfg.winCap) ∧
    (BlockInv (oneState 256) ∧ ¬ Instr.WellFormed (oneState 256).cfg (oneState 256).la .appf) ∧
    (BlockInv (reducedState 0) ∧ ¬ Instr.WellFormed (reducedState 0).cfg (reducedState 0).la .appf) :=
  ⟨⟨inv_one _, by decide⟩, ⟨inv_full _, by decide⟩, ⟨inv_one _, by decide⟩, ⟨inv_reduced _, by decide⟩⟩
/-- A removal from the empty window, and a push that faults on a full one (its BUSY-free status gains OVF). -/
theorem witness_WindowCommandsPreserveTheHash :
    (BlockInv (emptyState smallCfg 0) ∧ (emptyState smallCfg 0).window = []) ∧ BlockInv (romState 7) ∧
    (BlockInv (fullState 7) ∧
      leaves (exec .appb (fullState 7)) (fun t => t.status != (fullState 7).status.setBusy false) = true) :=
  ⟨⟨inv_empty _, by decide⟩, inv_rom _, inv_full _, by decide⟩
theorem witness_PushThenPopRestores : BlockInv (oneState 255) ∧ (oneState 255).window.length < (oneState 255).cfg.winCap ∧
    (oneState 255).cfg.variant = .full ∧ elementInRange (oneState 255).cfg (oneState 255).la .appb = true :=
  ⟨inv_one _, by decide⟩
/-- `S = [69, 105]`, as long as WIN_CAP, and `S = []`; two states with the same window and different tables. -/
theorem witness_IncrementalEqualsBatch :
    BlockInv (oneState 1) ∧ BlockInv (fullState 2) ∧ (oneState 1).cfg = (fullState 2).cfg ∧
    ([69, 105] : List Word).length ≤ (oneState 1).cfg.winCap ∧ ([] : List Word).length ≤ (oneState 1).cfg.winCap ∧
    (∀ x ∈ ([69, 105] : List Word), elementInRange (oneState 1).cfg x .appb = true) ∧
    elementInRange (oneState 1).cfg 255 .appb = true ∧
    (BlockInv (holding smallCfg [69] 69 [1, 257, 66049] 0) ∧
      (oneState 1).window = (holding smallCfg [69] 69 [1, 257, 66049] 0).window) := by
  refine ⟨inv_one _, inv_full _, rfl, by decide, by decide, ?_, by decide, ?_, rfl⟩
  · intro x hx
    rcases List.mem_pair.1 hx with rfl | rfl <;> decide
  · exact inv_holding _ _ _ _ _ (inv_one 0).legal (by decide +kernel) (by decide) (by decide) (by decide) (by decide)
theorem witness_EmptyWindowLaws : BlockInv (emptyState smallCfg 255) ∧ (emptyState smallCfg 255).window = [] ∧
    elementInRange (emptyState smallCfg 255).cfg (emptyState smallCfg 255).la .appb = true := ⟨inv_empty _, by decide⟩

theorem witness_NopChangesNothing :
    ((inFlight smallCfg 0x100).lop.extractLsb' 0 8 = 0x00#8 ∧ (inFlight smallCfg 0x100).lop.extractLsb' 8 56 ≠ 0#56) ∧
    (inFlight smallCfg 0x100).status.busy = true := by decide
theorem witness_ClearEmptiesTheWindow : (fullState 0).cfg.ptMode = .grown ∧ (romState 0).cfg.ptMode = .rom := by decide
theorem witness_ClearRestoresTheResetCore : BlockInv (fullState 0) ∧ BlockInv (romState 0) := ⟨inv_full _, inv_rom _⟩
theorem witness_CommandFrames : ∀ i : Instr, ∃ t, exec i State.reset = .next t := fun i => exec_next i _

/-- A zero divisor of 0 and of MOD; a removal. -/
theorem witness_ZeroDivisorRaisesDz : (withLatches 0 0).cfg.variant = .full ∧
    (withLatches 0 0).lb.toNat % (withLatches 0 0).cfg.mod = 0 ∧ (withLatches 0 0).la.toNat % (withLatches 0 0).cfg.mod = 0 ∧
    (withLatches 1000000007 1000000007).lb.toNat % (withLatches 1000000007 1000000007).cfg.mod = 0 ∧
    leaves (exec .remb (fullState 0)) (fun _ => true) = true := by decide
theorem witness_FullWindowRaisesOvf :
    (Instr.appb.WellFormed (fullState 255).cfg (fullState 255).la ∧ Instr.appf.WellFormed (fullState 255).cfg (fullState 255).la) ∧
    (fullState 255).window.length = (fullState 255).cfg.winCap := by decide
theorem witness_IllWinsOverOvf : elementInRange (fullState 256).cfg (fullState 256).la .appb = false ∧
    elementInRange (fullState 256).cfg (fullState 256).la .appf = false ∧
    (fullState 256).window.length = (fullState 256).cfg.winCap ∧ (fullState 256).status.ovf = false := by decide
/-- A step and a command with DZ set, and a free engine. -/
theorem witness_FaultBitsAreSticky :
    (let s := { fullState 0 with status := { Status.clear with dz := true } }
     leaves (step s) (fun t => t.status.get .dz) = true ∧ resetDue s = false ∧ s.status.get .dz = true ∧
       leaves (exec .remf s) (fun t => t.status.get .dz) = true ∧ s.status.busy = false) := by decide

theorem witness_StatusLayout : resetDue (fullState 0) = false ∧
    (let s := { State.reset with outstanding := some (okResponse 5) }
     resetDue s = false ∧ s.outstanding = some (okResponse 5)) := by decide
theorem witness_ParametersReadBack : step State.reset = .next State.reset ∧ State.reset.cfg.Legal ∧
    State.reset.cfg.winCap < 2 ^ 64 := ⟨rfl, reference_legal, by decide⟩
theorem witness_ConfigLayout : step (romState 0) = .next (romState 0) ∧ State.reset.cfg.Legal ∧ romCfg.Legal ∧ romCfg.ptMode = .rom ∧
    reducedCfg.Legal ∧ reducedCfg.variant = .reduced :=
  ⟨rfl, reference_legal, (inv_rom 0).legal, by decide, (inv_reduced 0).legal, by decide⟩
/-- WIDX at the last element and at WLEN, and a command in flight. -/
theorem witness_WdataShowsTheElement : (fullState 0).status.busy = false ∧
    (let s := { fullState 0 with widx := 1 }; s.widx.toNat < s.window.length) ∧
    (let s := { fullState 0 with widx := 2 }; s.window.length ≤ s.widx.toNat) ∧
    (inFlight smallCfg 0).status.busy = true := by decide
theorem witness_IdleReadsReturnTheRegisters : (fullState 0).status.busy = false ∧ (fullState 0).window.length < 2 ^ 64 ∧
    (fullState 0).pt.length < 2 ^ 64 ∧ (fullState 0).cfg.winCap < 2 ^ 64 := by decide
theorem witness_BusyReadsAreDraws : (inFlight smallCfg 0).status.busy = true := by decide
theorem witness_ReadsHaveNoSideEffect : (readRequest .wdata).we = false ∧ (readRequest .cmd).we = false := by decide
/-- Each kind of refused access and of performed access, at the edges of its range. -/
theorem witness_BusErrorsChangeNothing :
    (busError ∈ { State.reset with responses := [busError] }.responses ∧ busError.err = true) ∧
    (⟨true, 0x08, 2, 0⟩ : Request).size ≠ 3#2 ∧ (⟨false, 0x6F, 3, 0⟩ : Request).addr.toNat % 8 ≠ 0 ∧
    0x70 ≤ (⟨false, 0x70, 3, 0⟩ : Request).addr.toNat ∧
    (let r : Request := ⟨true, 0x18, 3, 0⟩
     r.we = true ∧ r.addr ≠ 0x00#8 ∧ r.addr ≠ 0x08#8 ∧ r.addr ≠ 0x10#8 ∧ r.addr ≠ 0x60#8) ∧
    (let r : Request := ⟨false, 0x68, 3, 0⟩
     r.size = 3#2 ∧ r.addr.toNat % 8 = 0 ∧ r.addr.toNat < 0x70 ∧ r.we = false) ∧
    (let r : Request := ⟨true, 0x60, 3, 0⟩
     r.size = 3#2 ∧ r.we = true ∧ (r.addr = 0x00#8 ∨ r.addr = 0x08#8 ∨ r.addr = 0x10#8 ∨ r.addr = 0x60#8)) := by decide
theorem witness_CommandWriteAcceptsOrOverruns : State.reset.status.busy = false ∧ (inFlight smallCfg 0).status.busy = true := by
  decide
theorem witness_LatchesIsolateTheCommand : ∃ t, complete (inFlight smallCfg 0x10) = .next t := ⟨_, rfl⟩
theorem witness_ByteLanesAreLittleEndian : 7 < 8 ∧ 0 < 8 := by decide

/-- A reset edge in a busy state, in GROWN and in ROM mode, with legal parameters. -/
theorem witness_ResetEdgeResetsTheBlock :
    (let s := { inFlight smallCfg 0x10 with rst := [0] }; resetDue s = true ∧ s.cfg.ptMode = .grown ∧ s.cfg.Legal) ∧
    (let s := { romState 0 with rst := [0] }; resetDue s = true ∧ s.cfg.ptMode = .rom ∧ s.cfg.Legal) :=
  ⟨⟨by decide, by decide, (inv_one 0).legal⟩, by decide, by decide, (inv_rom 0).legal⟩
theorem witness_ResetAbortsWhatIsPending :
    resetDue { inFlight smallCfg 0x10 with rst := [0], outstanding := some (okResponse 5) } = true := by decide
/-- Before the first reset, at its edge with another edge to come, and after it. -/
theorem witness_NothingRunsBeforeReset :
    (let s := { State.reset with wasReset := false }; s.wasReset = false ∧ resetDue s = false) ∧
    (let s := { State.reset with wasReset := false, rst := [0, 2] }
     resetDue s = true ∧ leaves (step s) (fun t => t.wasReset && t.rst == [2]) = true) ∧
    State.reset.wasReset = true := by decide
/-- Legal at ELEM_W = 1 and 64 and WIN_CAP = 1; illegal at ELEM_W = 65, WIN_CAP = 0, BASE = 0 and BASE = MOD. -/
theorem witness_OnlyLegalParametersBuild :
    (instanceOf 1 1 .grown .full).Legal ∧ (instanceOf 64 1 .rom .reduced).Legal ∧ ¬ (instanceOf 65 1 .grown .full).Legal ∧
    ¬ (instanceOf 8 0 .grown .full).Legal ∧ ¬ { Config.reference with base := 0 }.Legal ∧
    ¬ { Config.reference with base := 1000000007 }.Legal := by
  refine ⟨instance_legal _ _ _ _ (by decide), instance_legal _ _ _ _ (by decide), ?_, ?_, ?_, ?_⟩
  · rintro ⟨-, -, -, -, -, h, -⟩
    exact absurd h (by decide)
  · rintro ⟨-, -, -, -, -, -, h⟩
    exact absurd h (by decide)
  · rintro ⟨-, h, -⟩
    exact absurd h (by decide)
  · rintro ⟨-, -, h, -⟩
    exact absurd h (by decide)

/-- A due completion whose element is refused, one that decodes, and a command to place. -/
theorem witness_StepRunsTheDecodedCommand :
    (let s := { inFlight smallCfg 0x10 with la := 256 }
     resetDue s = false ∧ s.wasReset = true ∧ completionDue s = true ∧ decode s.cfg s.lop s.la = .error .elementRange) ∧
    (let s := { inFlight smallCfg 0x10 with la := 255 }
     resetDue s = false ∧ s.wasReset = true ∧ s.status.busy = true ∧ s.engineDelay = 0 ∧ decode s.cfg s.lop s.la = .ok .appb) ∧
    Instr.appf.WellFormed smallCfg 255 := by decide
/-- A delay of 2, at `n = 0` and at `n = 2`. -/
theorem witness_CommandsComplete : (let s := { inFlight smallCfg 0x10 with engineDelay := 2 }
    s.status.busy = true ∧ s.wasReset = true ∧ s.rst = [] ∧ 0 ≤ s.engineDelay ∧ 2 ≤ s.engineDelay) := by decide
theorem witness_CoreChangesOnlyAtCompletion : step (fullState 0) = .next (fullState 0) ∧ resetDue (fullState 0) = false ∧
    completionDue (fullState 0) = false := ⟨rfl, by decide, by decide⟩
/-- An idle step, a due CLEAR, and a due reset, in GROWN mode. -/
theorem witness_PowerTableIsMonotone : (fullState 0).cfg.ptMode = .grown ∧ step (fullState 0) = .next (fullState 0) ∧
    (resetDue (fullState 0) = false ∧ completionDue (fullState 0) = false) ∧
    (let s := inFlight smallCfg 0x1F; s.cfg.ptMode = .grown ∧ completionDue s = true ∧ s.lop = encode .clear ∧
      leaves (step s) (fun _ => true) = true) ∧
    (let s := { fullState 0 with rst := [0] }; s.cfg.ptMode = .grown ∧ resetDue s = true ∧
      leaves (step s) (fun _ => true) = true) := ⟨by decide, rfl, by decide, by decide, by decide⟩
/-- A response due and one to wait for; a stall with an access left and with none; an access to transfer. -/
theorem witness_ResponsesComeOneAtATime :
    (let s := { State.reset with outstanding := some (okResponse 5) }
     leaves (step s) (fun t => t.responses == [okResponse 5] && t.outstanding == none) = true ∧ resetDue s = false ∧
       completionDue s = false ∧ s.outstanding = some (okResponse 5) ∧ s.rspDelay = 0) ∧
    (let s := { State.reset with outstanding := some (okResponse 5), host := [asmRd (.name .hash)] }
     leaves (step s) (fun t => t.outstanding == none && t.pc == 1) = true ∧ s.rspDelay = 0 ∧
       s.host[s.pc]? = some (.access (readRequest .hash))) ∧
    (let s := { State.reset with outstanding := some (okResponse 5), rspDelay := 1 }
     leaves (step s) (fun t => t.outstanding == some (okResponse 5) && t.pc == 0) = true ∧ resetDue s = false ∧
       completionDue s = false ∧ s.rspDelay ≠ 0) ∧
    (let s := { State.reset with reqStall := 1, host := [.wait] }
     leaves (step s) (fun t => t.reqStall == 0 && t.outstanding == none) = true ∧ resetDue s = false ∧
       completionDue s = false ∧ s.outstanding = none ∧ s.reqStall ≠ 0) ∧
    (let s := { State.reset with reqStall := 1 }
     leaves (step s) (fun t => t.reqStall == 0) = true ∧ s.outstanding = none ∧ s.host[s.pc]? = none) ∧
    (let s := { State.reset with host := [.wait] }
     resetDue s = false ∧ s.wasReset = true ∧ completionDue s = false ∧ s.outstanding = none ∧ s.reqStall = 0 ∧
       s.host[s.pc]? = some .wait) := by decide
/-- STATUS read as 1 and as 0. -/
theorem witness_WaitRepeatsWhileBusy : ∀ v ∈ [1, 0],
    (let s := { State.reset with host := [.wait], outstanding := some (okResponse (BitVec.ofNat 64 v)) }
     resetDue s = false ∧ s.wasReset = true ∧ completionDue s = false ∧
       s.outstanding = some (okResponse (BitVec.ofNat 64 v)) ∧ s.rspDelay = 0 ∧ s.host[s.pc]? = some .wait) := by decide
theorem witness_ResetMeetsTheBlockInvariant : (instanceOf 64 1 .rom .reduced).Legal ∧
    (let s := { inFlight romCfg 0x10 with rst := [0] }; resetDue s = true ∧ s.cfg.Legal) :=
  ⟨instance_legal _ _ _ _ (by decide), by decide, (inv_rom 0).legal⟩
/-- A state with a window, in which a step is taken. -/
theorem witness_EveryStepKeepsTheBlockInvariant : BlockInv (fullState 0) ∧ step (fullState 0) = .next (fullState 0) :=
  ⟨inv_full _, rfl⟩

end Sys2Proof.Tests
end

section
/-! Building an instance (R14): what `State.build` answers for a legal parameter set, and for any other. -/

namespace Sys2Proof.Machine

/-- The initial state carries the parameters it was built with. -/
@[simp] theorem init_cfg (c : Config) : (State.init c).cfg = c := rfl

theorem build_of_legal {c : Config} (h : c.Legal) : State.build c = .next (State.init c) := if_pos h

theorem build_of_not_legal {c : Config} (h : ¬ c.Legal) : State.build c = .refused .illegalConfig := if_neg h

/-- Settles O52: the statement's conditions are `Config.Legal`, the one test `State.build` makes. -/
theorem onlyLegalParametersBuild : Obligations.OnlyLegalParametersBuild := by
  intro c
  constructor
  · intro legal
    exact ⟨State.init c, build_of_legal legal, init_cfg c⟩
  · intro illegal
    exact build_of_not_legal illegal

end Sys2Proof.Machine
end

section
/-! The modular units in the arithmetic of naturals: `modpow` is the power (R106), `modInv` the inverse (R107), and
subtraction undoes addition (R104). -/

namespace Sys2Proof.Machine

theorem one_lt_mod {c : Config} (h : c.Legal) : 1 < c.mod := h.1.one_lt

/-- R106: the loop multiplies the accumulator by `x ^ e`. Rounds halve `e`, so `e` of them are enough. -/
theorem modpowLoop_eq (c : Config) {fuel acc x e : Nat} (hacc : acc < c.mod) (he : e ≤ fuel) :
    modpowLoop c fuel acc x e = acc * x ^ e % c.mod := by
  induction fuel generalizing acc x e with
  | zero =>
    obtain rfl : e = 0 := by omega
    simp [modpowLoop, Nat.mod_eq_of_lt hacc]
  | succ fuel ih =>
    by_cases h0 : e = 0
    · simp [modpowLoop, h0, Nat.mod_eq_of_lt hacc]
    have hmod : 0 < c.mod := by omega
    have hsq : (x * x % c.mod) ^ (e / 2) ≡ x ^ (2 * (e / 2)) [MOD c.mod] := by
      rw [pow_mul, sq]
      exact (Nat.mod_modEq _ _).pow _
    rw [modpowLoop, if_neg h0]
    by_cases hodd : e % 2 = 1
    · rw [if_pos hodd, ih (Nat.mod_lt _ hmod) (by omega)]
      have hsplit : acc * x ^ e = acc * x * x ^ (2 * (e / 2)) := by
        rw [mul_assoc, ← pow_succ', show 2 * (e / 2) + 1 = e by omega]
      rw [hsplit]
      exact (Nat.mod_modEq _ _).mul hsq
    · rw [if_neg hodd, ih hacc (by omega)]
      have hsplit : acc * x ^ e = acc * x ^ (2 * (e / 2)) := by
        rw [show 2 * (e / 2) = e by omega]
      rw [hsplit]
      exact hsq.mul_left acc

theorem modpow_eq {c : Config} (h : 1 < c.mod) (x e : Nat) : modpow c x e = x ^ e % c.mod := by
  rw [modpow, modpowLoop_eq c h le_rfl, one_mul]

theorem modInv_lt {c : Config} (h : c.Legal) (x : Nat) : modInv c x < c.mod := by
  rw [modInv, modpow_eq (one_lt_mod h)]
  exact Nat.mod_lt _ (mod_pos h)

/-- R107, by Fermat's little theorem. -/
theorem mul_modInv_modEq_one {c : Config} (h : c.Legal) {x : Nat} (h0 : 0 < x) (hx : x < c.mod) :
    x * modInv c x ≡ 1 [MOD c.mod] := by
  have hlt := one_lt_mod h
  have hfermat : x ^ (c.mod - 1) ≡ 1 [MOD c.mod] := by
    rw [← Nat.totient_prime h.1]
    exact Nat.ModEq.pow_totient (Nat.coprime_of_lt_prime h0.ne' hx h.1).symm
  calc x * modInv c x
      = x * (x ^ (c.mod - 2) % c.mod) := by rw [modInv, modpow_eq hlt]
    _ ≡ x * x ^ (c.mod - 2) [MOD c.mod] := (Nat.mod_modEq _ _).mul_left x
    _ = x ^ (c.mod - 1) := by rw [← pow_succ', show c.mod - 2 + 1 = c.mod - 1 by omega]
    _ ≡ 1 [MOD c.mod] := hfermat

/-- R104: the subtractor takes back what was added. -/
theorem modSub_of_add_modEq {c : Config} {a b n : Nat} (hb : b < c.mod) (h : n + b ≡ a [MOD c.mod]) :
    modSub c a b = n % c.mod := by
  have hback : a + c.mod - b + b ≡ n + b [MOD c.mod] := by
    rw [Nat.sub_add_cancel (by omega)]
    exact (Nat.add_modEq_right).trans h.symm
  exact Nat.ModEq.add_right_cancel' b hback

end Sys2Proof.Machine
end

section
/-! The power table as a list (R28, R133): the powers of BASE from `PT[0]` on, which growth extends by the next ones. -/

namespace Sys2Proof.Machine

/-- The first `n` entries a power table can have (R28). -/
def powerTable (c : Config) (n : Nat) : List Word := (List.range n).map (powerEntry c)

@[simp] theorem powerTable_length (c : Config) (n : Nat) : (powerTable c n).length = n := by simp [powerTable]

theorem powerTable_getElem? (c : Config) {n k : Nat} (h : k < n) : (powerTable c n)[k]? = some (powerEntry c k) := by
  simp [powerTable, h]

theorem powerTable_succ (c : Config) (n : Nat) : powerTable c (n + 1) = powerTable c n ++ [powerEntry c n] := by
  simp [powerTable, List.range_succ]

theorem powerEntry_zero {c : Config} (h : c.Legal) : powerEntry c 0 = 1#64 := by
  rw [powerEntry, pow_zero, Nat.mod_eq_of_lt (one_lt_mod h)]
  rfl

theorem powerTable_one {c : Config} (h : c.Legal) : powerTable c 1 = [1#64] := by
  rw [← powerEntry_zero h]
  rfl

/-- R190's table in either mode. -/
theorem resetTable_eq_powerTable {c : Config} (h : c.Legal) :
    resetTable c = powerTable c (if c.ptMode = .rom then c.winCap + 1 else 1) := by
  unfold resetTable
  cases c.ptMode with
  | grown => exact (powerTable_one h).symm
  | rom => rfl

theorem powerEntry_toNat {c : Config} (h : c.Legal) (k : Nat) : (powerEntry c k).toNat = c.base ^ k % c.mod :=
  zext64_mod h _

/-- R133: each entry is the one before it times BASE. -/
theorem powerEntry_succ {c : Config} (h : c.Legal) (k : Nat) :
    zext64 ((powerEntry c k).toNat * c.base % c.mod) = powerEntry c (k + 1) := by
  rw [powerEntry_toNat h, Nat.mod_mul_mod, ← pow_succ]
  rfl

/-- Below PLEN a read of the table draws nothing (R28). -/
theorem tableEntry_powerTable (c : Config) (d : Nat) {n k : Nat} (h : k < n) :
    tableEntry d (powerTable c n) k = powerEntry c k := by
  rw [tableEntry, List.getD_eq_getElem?_getD, powerTable_getElem? c h]
  rfl

/-- R133 and R28: growth answers the longer table of powers. -/
theorem growTable_powerTable {c : Config} (h : c.Legal) (d n m : Nat) :
    growTable c d n (powerTable c (m + 1)) = powerTable c (m + 1 + n) := by
  induction n generalizing m with
  | zero => rfl
  | succ n ih =>
    rw [growTable, powerTable_length, Nat.add_sub_cancel, tableEntry_powerTable c d (Nat.lt_succ_self m),
      powerEntry_succ h, ← powerTable_succ, ih, show m + 1 + 1 + n = m + 1 + (n + 1) by omega]

end Sys2Proof.Machine
end

section
/-! What each body with a case split does in each case (R108, R109, R134 to R141). -/

namespace Sys2Proof.Machine

theorem mdivBody_of_zero {s : State} (h : operandB s = 0) : mdivBody s = s.fail .dz := if_pos h

theorem mdivBody_of_ne_zero {s : State} (h : operandB s ≠ 0) :
    mdivBody s = (s.setResult (modMul s.cfg (operandA s) (modInv s.cfg (operandB s)))).finish := if_neg h

theorem minvBody_of_zero {s : State} (h : operandA s = 0) : minvBody s = s.fail .dz := if_pos h

theorem minvBody_of_ne_zero {s : State} (h : operandA s ≠ 0) :
    minvBody s = (s.setResult (modInv s.cfg (operandA s))).finish := if_neg h

theorem appbBody_of_full {s : State} (h : s.window.length = s.cfg.winCap) : appbBody s = s.fail .ovf := if_pos h

theorem appbBody_of_room {s : State} (h : s.window.length ≠ s.cfg.winCap) :
    appbBody s = ((s.setHash ((hashOf s * s.cfg.base + red s.cfg (elementOf s.cfg s.la)) % s.cfg.mod)).setWindow
      (s.window ++ [elementOf s.cfg s.la])).grow.finish := if_neg h

theorem appfBody_of_full {s : State} (h : s.window.length = s.cfg.winCap) : appfBody s = s.fail .ovf := if_pos h

theorem appfBody_of_room {s : State} (h : s.window.length ≠ s.cfg.winCap) :
    appfBody s = ((s.setHash (modAdd s.cfg (hashOf s)
      (modMul s.cfg (red s.cfg (elementOf s.cfg s.la)) (powerOf s s.window.length)))).setWindow
      (elementOf s.cfg s.la :: s.window)).grow.finish := if_neg h

theorem remfBody_of_nil {s : State} (h : s.window = []) : remfBody s = s.finish := by
  rw [remfBody, h]

theorem remfBody_of_cons {s : State} {x : Word} {w : List Word} (h : s.window = x :: w) :
    remfBody s = ((s.setHash (modSub s.cfg (hashOf s) (modMul s.cfg (red s.cfg x) (powerOf s w.length)))).setWindow
      w).finish := by
  rw [remfBody, h]
  rfl

theorem rembBody_of_nil {s : State} (h : s.window = []) : rembBody s = s.finish := by
  rw [rembBody, h]
  rfl

theorem rembBody_of_append {s : State} {x : Word} {w : List Word} (h : s.window = w ++ [x]) :
    rembBody s = ((s.setHash (modMul s.cfg (modSub s.cfg (hashOf s) (red s.cfg x)) (modInv s.cfg s.cfg.base))).setWindow
      w).finish := by
  rw [rembBody, h, List.getLast?_concat, List.dropLast_concat]

end Sys2Proof.Machine
end

section
/-! The hash of the window under a push or a removal at either end (R135 to R141). -/

namespace Sys2Proof.Machine

@[simp] theorem windowHash_nil (c : Config) : windowHash c [] = 0 := by simp [windowHash]

theorem red_modEq (c : Config) (x : Word) : red c x ≡ x.toNat [MOD c.mod] := Nat.mod_modEq _ _

theorem windowHash_modEq (c : Config) (w : List Word) : windowHash c w ≡ windowSum c w [MOD c.mod] := Nat.mod_modEq _ _

/-- The front element's term, as APPF and REMF form it from the table's weight. -/
theorem frontTerm_modEq (c : Config) (x : Word) (n : Nat) :
    modMul c (red c x) (c.base ^ n % c.mod) ≡ x.toNat * c.base ^ n [MOD c.mod] :=
  (Nat.mod_modEq _ _).trans ((red_modEq c x).mul (Nat.mod_modEq _ _))

/-- R134, R135. -/
theorem windowHash_pushBack (c : Config) (w : List Word) (x : Word) :
    (windowHash c w * c.base + red c x) % c.mod = windowHash c (w ++ [x]) := by
  rw [windowHash, windowHash, windowSum_append_one]
  exact ((windowHash_modEq c w).mul_right c.base).add (red_modEq c x)

/-- R140, R141. -/
theorem windowHash_pushFront (c : Config) (w : List Word) (x : Word) :
    modAdd c (windowHash c w) (modMul c (red c x) (c.base ^ w.length % c.mod)) = windowHash c (x :: w) := by
  rw [windowHash.eq_1 c (x :: w), windowSum_cons, add_comm]
  exact (windowHash_modEq c w).add (frontTerm_modEq c x w.length)

/-- R136, R137. -/
theorem windowHash_popFront {c : Config} (h : c.Legal) (w : List Word) (x : Word) :
    modSub c (windowHash c (x :: w)) (modMul c (red c x) (c.base ^ w.length % c.mod)) = windowHash c w := by
  refine modSub_of_add_modEq (modMul_lt h _ _) ?_
  calc windowSum c w + modMul c (red c x) (c.base ^ w.length % c.mod)
      ≡ windowSum c w + x.toNat * c.base ^ w.length [MOD c.mod] := (frontTerm_modEq c x w.length).add_left _
    _ = windowSum c (x :: w) := by rw [windowSum_cons, add_comm]
    _ ≡ windowHash c (x :: w) [MOD c.mod] := (windowHash_modEq c _).symm

/-- R138, R139: dividing by BASE is multiplying by its inverse. -/
theorem windowHash_popBack {c : Config} (h : c.Legal) (w : List Word) (x : Word) :
    modMul c (modSub c (windowHash c (w ++ [x])) (red c x)) (modInv c c.base) = windowHash c w := by
  obtain ⟨-, hbase, hlt, -⟩ := id h
  have hsub : modSub c (windowHash c (w ++ [x])) (red c x) = windowSum c w * c.base % c.mod := by
    refine modSub_of_add_modEq (red_lt h x) ?_
    calc windowSum c w * c.base + red c x
        ≡ windowSum c w * c.base + x.toNat [MOD c.mod] := (red_modEq c x).add_left _
      _ = windowSum c (w ++ [x]) := (windowSum_append_one c w x).symm
      _ ≡ windowHash c (w ++ [x]) [MOD c.mod] := (windowHash_modEq c _).symm
  have hcancel : windowSum c w * c.base % c.mod * modInv c c.base ≡ windowSum c w [MOD c.mod] :=
    calc windowSum c w * c.base % c.mod * modInv c c.base
        ≡ windowSum c w * c.base * modInv c c.base [MOD c.mod] := (Nat.mod_modEq _ _).mul_right _
      _ = windowSum c w * (c.base * modInv c c.base) := mul_assoc _ _ _
      _ ≡ windowSum c w * 1 [MOD c.mod] := (mul_modInv_modEq_one h hbase hlt).mul_left _
      _ = windowSum c w := mul_one _
  rw [hsub]
  exact hcancel

end Sys2Proof.Machine
end

section
/-! The block invariant, operation by operation (R23 to R28, R132, R133). -/

namespace Sys2Proof

open Sys2Proof.Machine

/-- The clauses of `BlockInv` about the power table, with the entries' values as one equation. -/
structure TableInv (c : Config) (len : Nat) (pt : List Word) : Prop where
  powers : pt = powerTable c pt.length
  ge : len + 1 ≤ pt.length
  le : pt.length ≤ c.winCap + 1
  rom : c.ptMode = .rom → pt.length = c.winCap + 1

theorem eq_powerTable_iff (c : Config) (pt : List Word) :
    pt = powerTable c pt.length ↔ ∀ k, k < pt.length → pt[k]? = some (powerEntry c k) := by
  constructor
  · intro h k hk
    rw [h]
    exact powerTable_getElem? c hk
  · intro h
    refine List.ext_getElem? fun k => ?_
    rcases Nat.lt_or_ge k pt.length with hk | hk
    · rw [h k hk, powerTable_getElem? c hk]
    · rw [List.getElem?_eq_none hk, List.getElem?_eq_none (by simpa using hk)]

theorem tableInv_powerTable {c : Config} {len n : Nat} (hge : len + 1 ≤ n) (hle : n ≤ c.winCap + 1)
    (hrom : c.ptMode = .rom → n = c.winCap + 1) : TableInv c len (powerTable c n) := by
  refine ⟨by rw [powerTable_length], ?_, ?_, ?_⟩ <;> simpa only [powerTable_length]

/-- A window that is no longer needs no other table. -/
theorem TableInv.mono {c : Config} {len len' : Nat} {pt : List Word} (h : TableInv c len pt) (hlen : len' ≤ len) :
    TableInv c len' pt :=
  ⟨h.powers, by have := h.ge; omega, h.le, h.rom⟩

/-- The weight read at an index the table has (R28). -/
theorem TableInv.powerOf_eq {s : State} {len k : Nat} (hl : s.cfg.Legal) (h : TableInv s.cfg len s.pt) (hk : k ≤ len) :
    powerOf s k = s.cfg.base ^ k % s.cfg.mod := by
  have hlt : k < s.pt.length := by have := h.ge; omega
  rw [powerOf, h.powers, tableEntry_powerTable _ _ hlt, powerEntry_toNat hl]

theorem tableInv_resetTable {c : Config} (h : c.Legal) : TableInv c 0 (resetTable c) := by
  rw [resetTable_eq_powerTable h]
  split
  · exact tableInv_powerTable (by omega) le_rfl fun _ => rfl
  · next hm => exact tableInv_powerTable le_rfl (by omega) fun hr => absurd hr hm

/-- R133: after a push that made the window one longer, `grow()` gives it the table it needs. -/
theorem tableInv_grow {s : State} {len : Nat} (hl : s.cfg.Legal) (h : TableInv s.cfg len s.pt)
    (hlen : s.window.length = len + 1) (hcap : s.window.length ≤ s.cfg.winCap) :
    TableInv s.cfg s.window.length s.grow.pt := by
  obtain ⟨hpow, hge, hle, hrom⟩ := h
  rw [State.grow_pt]
  cases hm : s.cfg.ptMode with
  | rom =>
    have hfull := hrom hm
    exact ⟨hpow, by simp only [hfull]; omega, hle, hrom⟩
  | grown =>
    obtain ⟨m, hplen⟩ : ∃ m, s.pt.length = m + 1 := ⟨s.pt.length - 1, by omega⟩
    rw [hplen] at hpow hge hle
    simp only [hpow, powerTable_length, growTable_powerTable hl]
    exact tableInv_powerTable (by omega) (by omega) fun hr => by simp [hm] at hr

theorem tableInv_clearedTable {s : State} {len : Nat} (hl : s.cfg.Legal) (h : TableInv s.cfg len s.pt) :
    TableInv s.cfg 0 (clearedTable s) := by
  unfold clearedTable
  cases hm : s.cfg.ptMode with
  | rom => exact h.mono (Nat.zero_le len)
  | grown =>
    rw [← powerTable_one hl]
    exact tableInv_powerTable le_rfl (by omega) fun hr => by simp [hm] at hr

theorem BlockInv.tableInv {s : State} (h : BlockInv s) : TableInv s.cfg s.window.length s.pt :=
  ⟨(eq_powerTable_iff _ _).2 h.table_eq, h.table_ge, h.table_le, h.table_rom⟩

/-- The other clauses of the invariant, with the table's clauses as one. -/
theorem BlockInv.of_tableInv {s : State} (legal : s.cfg.Legal) (result_lt : s.result.toNat < s.cfg.mod)
    (hash_eq : s.hash.toNat = windowHash s.cfg s.window) (window_le : s.window.length ≤ s.cfg.winCap)
    (element_lt : ∀ x ∈ s.window, x.toNat < 2 ^ s.cfg.elemW) (table : TableInv s.cfg s.window.length s.pt) :
    BlockInv s :=
  ⟨legal, result_lt, hash_eq, window_le, element_lt, (eq_powerTable_iff _ _).1 table.powers, table.ge, table.le,
    table.rom⟩

/-- The invariant reads the parameters and the core state alone. -/
theorem BlockInv.of_core_eq {s t : State} (h : BlockInv s) (hcfg : t.cfg = s.cfg) (hresult : t.result = s.result)
    (hhash : t.hash = s.hash) (hwindow : t.window = s.window) (hpt : t.pt = s.pt) : BlockInv t := by
  obtain ⟨legal, result_lt, hash_eq, window_le, element_lt, table_eq, table_ge, table_le, table_rom⟩ := h
  constructor <;> simpa only [hcfg, hresult, hhash, hwindow, hpt]

theorem BlockInv.finish {s : State} (h : BlockInv s) : BlockInv s.finish := h.of_core_eq rfl rfl rfl rfl rfl

theorem BlockInv.fail {s : State} (h : BlockInv s) (f : FaultBit) : BlockInv (s.fail f) :=
  h.of_core_eq rfl rfl rfl rfl rfl

theorem BlockInv.busMove {s : State} (h : BlockInv s) : BlockInv (busMove s) := by
  obtain ⟨hcfg, hresult, hhash, hwindow, hpt⟩ := busMove_core s
  exact h.of_core_eq hcfg hresult hhash hwindow hpt

/-- The invariant in the reset state with legal parameters (R190). -/
theorem blockInv_init {c : Config} (h : c.Legal) : BlockInv (State.init c) := by
  refine .of_tableInv h (mod_pos h) ?_ (Nat.zero_le _) ?_ (tableInv_resetTable h)
  · exact (windowHash_nil c).symm
  · intro x hx
    exact absurd hx List.not_mem_nil

theorem blockInv_resetMove {s : State} (h : s.cfg.Legal) : BlockInv (resetMove s) :=
  (blockInv_init h).of_core_eq rfl rfl rfl rfl rfl

/-- A residue may be written to RESULT (R23). -/
theorem BlockInv.setResult {s : State} (h : BlockInv s) {v : Nat} (hv : v < s.cfg.mod) : BlockInv (s.setResult v) := by
  refine .of_tableInv h.legal ?_ h.hash_eq h.window_le h.element_lt h.tableInv
  rw [State.setResult_result, zext64_toNat (hv.trans (mod_lt_word h.legal))]
  exact hv

/-- A window in bounds may be written, with its own hash, over a table that covers it (R24 to R28). -/
theorem BlockInv.setWindow {s : State} (h : BlockInv s) {w : List Word} (hcap : w.length ≤ s.cfg.winCap)
    (helem : ∀ x ∈ w, x.toNat < 2 ^ s.cfg.elemW) {t : List Word} (ht : TableInv s.cfg w.length t) :
    BlockInv (((s.setHash (windowHash s.cfg w)).setWindow w).setTable t) :=
  .of_tableInv h.legal h.result_lt (zext64_mod h.legal _) hcap helem ht

/-- Removing elements keeps the invariant, the table staying as it is. -/
theorem BlockInv.remove {s : State} (h : BlockInv s) {w : List Word} (hw : w.Sublist s.window) :
    BlockInv ((s.setHash (windowHash s.cfg w)).setWindow w) :=
  h.setWindow (hw.length_le.trans h.window_le) (fun x hx => h.element_lt x (hw.subset hx)) (h.tableInv.mono hw.length_le)

/-- Pushing one element in range below the capacity, then `grow()`, keeps the invariant. -/
theorem BlockInv.push {s : State} (h : BlockInv s) {w : List Word} (hlen : w.length = s.window.length + 1)
    (hroom : s.window.length ≠ s.cfg.winCap) (helem : ∀ x ∈ w, x.toNat < 2 ^ s.cfg.elemW) :
    BlockInv ((s.setHash (windowHash s.cfg w)).setWindow w).grow := by
  have hcap : w.length ≤ s.cfg.winCap := by
    have := h.window_le
    omega
  rw [State.grow_frame]
  exact h.setWindow hcap helem (tableInv_grow (s := (s.setHash _).setWindow w) h.legal h.tableInv hlen hcap)

theorem hashOf_eq {s : State} (h : BlockInv s) : hashOf s = windowHash s.cfg s.window := h.hash_eq

theorem elementOf_lt {c : Config} (h : c.Legal) (la : Word) : (elementOf c la).toNat < 2 ^ c.elemW := by
  obtain ⟨-, -, -, -, -, hwide, -⟩ := h
  have hlt : la.toNat % 2 ^ c.elemW < 2 ^ c.elemW := Nat.mod_lt _ (by positivity)
  rw [elementOf, zext64_toNat (hlt.trans_le (Nat.pow_le_pow_right (by omega) hwide))]
  exact hlt

theorem BlockInv.mdivBody {s : State} (h : BlockInv s) : BlockInv (mdivBody s) := by
  by_cases hz : operandB s = 0
  · rw [mdivBody_of_zero hz]
    exact h.fail .dz
  · rw [mdivBody_of_ne_zero hz]
    exact (h.setResult (modMul_lt h.legal _ _)).finish

theorem BlockInv.minvBody {s : State} (h : BlockInv s) : BlockInv (minvBody s) := by
  by_cases hz : operandA s = 0
  · rw [minvBody_of_zero hz]
    exact h.fail .dz
  · rw [minvBody_of_ne_zero hz]
    exact (h.setResult (modInv_lt h.legal _)).finish

theorem BlockInv.appbBody {s : State} (h : BlockInv s) : BlockInv (appbBody s) := by
  by_cases hfull : s.window.length = s.cfg.winCap
  · rw [appbBody_of_full hfull]
    exact h.fail .ovf
  · rw [appbBody_of_room hfull, hashOf_eq h, windowHash_pushBack]
    refine (h.push (by simp) hfull fun x hx => ?_).finish
    rcases List.mem_append.1 hx with hold | hnew
    · exact h.element_lt x hold
    · rw [List.mem_singleton.1 hnew]
      exact elementOf_lt h.legal s.la

theorem BlockInv.appfBody {s : State} (h : BlockInv s) : BlockInv (appfBody s) := by
  by_cases hfull : s.window.length = s.cfg.winCap
  · rw [appfBody_of_full hfull]
    exact h.fail .ovf
  · rw [appfBody_of_room hfull, hashOf_eq h, h.tableInv.powerOf_eq h.legal le_rfl, windowHash_pushFront]
    refine (h.push (by simp) hfull fun x hx => ?_).finish
    rcases List.mem_cons.1 hx with rfl | hold
    · exact elementOf_lt h.legal s.la
    · exact h.element_lt x hold

theorem BlockInv.remfBody {s : State} (h : BlockInv s) : BlockInv (remfBody s) := by
  cases hw : s.window with
  | nil =>
    rw [remfBody_of_nil hw]
    exact h.finish
  | cons x w =>
    have hle : w.length ≤ s.window.length := by simp [hw]
    rw [remfBody_of_cons hw, hashOf_eq h, h.tableInv.powerOf_eq h.legal hle, hw, windowHash_popFront h.legal]
    exact (h.remove (by simp [hw])).finish

theorem BlockInv.rembBody {s : State} (h : BlockInv s) : BlockInv (rembBody s) := by
  rcases List.eq_nil_or_concat' s.window with hw | ⟨w, x, hw⟩
  · rw [rembBody_of_nil hw]
    exact h.finish
  · rw [rembBody_of_append hw, hashOf_eq h, hw, windowHash_popBack h.legal]
    exact (h.remove (by simp [hw])).finish

theorem BlockInv.clearBody {s : State} (h : BlockInv s) : BlockInv (clearBody s) := by
  have hzero : (s.setWindow []).setHash 0 = (s.setHash (windowHash s.cfg [])).setWindow [] := by
    rw [windowHash_nil]
    rfl
  rw [Machine.clearBody, hzero]
  refine (h.setWindow (w := []) (Nat.zero_le _) ?_ (tableInv_clearedTable h.legal h.tableInv)).finish
  intro x hx
  exact absurd hx List.not_mem_nil

theorem BlockInv.commandBody {s : State} (h : BlockInv s) (i : Instr) : BlockInv (commandBody i s) := by
  cases i with
  | nop => exact h.finish
  | mred => exact (h.setResult (red_lt h.legal _)).finish
  | madd => exact (h.setResult (modAdd_lt h.legal _ _)).finish
  | msub => exact (h.setResult (modSub_lt h.legal _ _)).finish
  | mmul => exact (h.setResult (modMul_lt h.legal _ _)).finish
  | mdiv => exact h.mdivBody
  | minv => exact h.minvBody
  | appb => exact h.appbBody
  | remf => exact h.remfBody
  | remb => exact h.rembBody
  | appf => exact h.appfBody
  | clear => exact h.clearBody

theorem BlockInv.exec {i : Instr} {s t : State} (h : BlockInv s) (he : exec i s = .next t) : BlockInv t := by
  rcases exec_cases he with ⟨-, rfl⟩ | ⟨-, rfl⟩
  · exact h.commandBody i
  · exact h.fail .ill

theorem BlockInv.complete {s t : State} (h : BlockInv s) (hc : complete s = .next t) : BlockInv t := by
  rcases complete_cases hc with ⟨-, rfl⟩ | ⟨i, -, he⟩
  · exact h.fail .ill
  · exact h.exec he

/-- Settles O60: a step is a reset edge, a completion or a move of the bus, and each keeps the invariant. -/
theorem everyStepKeepsTheBlockInvariant : Obligations.EveryStepKeepsTheBlockInvariant := by
  intro s t h hstep
  rcases step_cases hstep with ⟨-, rfl⟩ | ⟨-, -, -, hc⟩ | ⟨-, -, -, rfl⟩
  · exact blockInv_resetMove h.legal
  · exact h.complete hc
  · exact h.busMove

end Sys2Proof
end

section
/-! Which words decode to a command, which commands are always legal (R83, R86, R88), and so what a completion performs. -/

namespace Sys2Proof

open Sys2Proof.Machine

/-- A word names a command exactly when it is the command's word (R80, R83). -/
theorem decodeWord_eq_ok_iff (v : Word) (i : Instr) : decodeWord v = .ok i ↔ v = encode i := by
  constructor
  · intro h
    by_cases hres : reservedField v = 0#56
    · have hop : opcodeField v = opcode i := by
        have hlookup : opcodeMap.lookup (opcodeField v) = some i := by
          simp only [decodeWord, hres, ne_eq, not_true_eq_false, if_false] at h
          cases hl : opcodeMap.lookup (opcodeField v) <;> simp_all
        obtain ⟨front, back, hmap, -⟩ := List.lookup_eq_some_iff.1 hlookup
        have hrow : ∀ row ∈ opcodeMap, row.1 = opcode row.2 := by decide
        exact hrow (opcodeField v, i) (by simp [hmap])
      rw [word_eq_fields v, hres, hop]
      rfl
    · rw [decodeWord_reserved v hres] at h
      cases h
  · rintro rfl
    cases i <;> decide

/-- Every variant has these commands, and only pushes have an element to check (R86, R88). -/
theorem wellFormed_of_inReduced {i : Instr} (hi : inReduced i = true) (hx : i ≠ .appb) (c : Config) (la : Word) :
    i.WellFormed c la := by
  constructor
  · unfold variantAdmits
    cases c.variant with
    | full => rfl
    | reduced => exact hi
  · cases i with
    | appb => exact absurd rfl hx
    | appf => cases hi
    | _ => rfl

theorem complete_of_error {s : State} {e : Illegal} (h : decode s.cfg s.lop s.la = .error e) :
    complete s = .next (s.fail .ill) := by
  rw [complete, h]

theorem complete_of_ok {s : State} {i : Instr} (h : decode s.cfg s.lop s.la = .ok i) : complete s = exec i s := by
  rw [complete, h]

theorem complete_clear {s t : State} (h : complete s = .next t) (hc : s.lop = encode .clear) : t = clearBody s := by
  have hwf := wellFormed_of_inReduced (i := .clear) rfl (by simp) s.cfg s.la
  have hdec : decode s.cfg s.lop s.la = .ok .clear :=
    (decode_eq_ok_iff _ _ _ _).2 ⟨(decodeWord_eq_ok_iff _ _).2 hc, hwf⟩
  rw [complete_of_ok hdec, exec_of_wellFormed hwf] at h
  cases h
  rfl

end Sys2Proof
end

section
/-! What each command leaves unchanged, and how it can complete (the table of 10_state.md section 5, R39). -/

namespace Sys2Proof

open Sys2Proof.Machine

theorem SameButResult.pt_eq {s t : State} (h : SameButResult s t) : t.pt = s.pt := by
  rw [h]

theorem SameButWindow.pt_eq {s t : State} (h : SameButWindow s t) : t.pt = s.pt := by
  rw [h]

theorem faultedWith_fail (f : FaultBit) (s : State) : FaultedWith f s (s.fail f) := ⟨rfl, rfl⟩

/-- A body with a guard that faults makes no other change than its other branch may make (R171). -/
theorem guarded_outcome {Same : State → State → Prop} {p : Prop} [Decidable p] {f : FaultBit} {s t : State}
    (hfail : Same s (s.fail f)) (hbody : Same s t ∧ CompletedClean s t) :
    Same s (if p then s.fail f else t) ∧
      (CompletedClean s (if p then s.fail f else t) ∨ FaultedWith f s (if p then s.fail f else t)) := by
  split
  · exact ⟨hfail, .inr (faultedWith_fail f s)⟩
  · exact hbody.imp_right .inl

theorem sameButCore_grow (s : State) (v : Nat) (w : List Word) :
    SameButCore s ((s.setHash v).setWindow w).grow.finish ∧ CompletedClean s ((s.setHash v).setWindow w).grow.finish := by
  rw [State.grow_frame]
  exact ⟨rfl, rfl⟩

theorem mdivBody_outcome (s : State) :
    SameButResult s (mdivBody s) ∧ (CompletedClean s (mdivBody s) ∨ FaultedWith .dz s (mdivBody s)) :=
  guarded_outcome rfl ⟨rfl, rfl⟩

theorem minvBody_outcome (s : State) :
    SameButResult s (minvBody s) ∧ (CompletedClean s (minvBody s) ∨ FaultedWith .dz s (minvBody s)) :=
  guarded_outcome rfl ⟨rfl, rfl⟩

theorem appbBody_outcome (s : State) :
    SameButCore s (appbBody s) ∧ (CompletedClean s (appbBody s) ∨ FaultedWith .ovf s (appbBody s)) :=
  guarded_outcome rfl (sameButCore_grow s _ _)

theorem appfBody_outcome (s : State) :
    SameButCore s (appfBody s) ∧ (CompletedClean s (appfBody s) ∨ FaultedWith .ovf s (appfBody s)) :=
  guarded_outcome rfl (sameButCore_grow s _ _)

theorem remfBody_outcome (s : State) : SameButWindow s (remfBody s) ∧ CompletedClean s (remfBody s) := by
  cases hw : s.window with
  | nil =>
    rw [remfBody_of_nil hw]
    exact ⟨rfl, rfl⟩
  | cons x w =>
    rw [remfBody_of_cons hw]
    exact ⟨rfl, rfl⟩

theorem rembBody_outcome (s : State) : SameButWindow s (rembBody s) ∧ CompletedClean s (rembBody s) := by
  rcases List.eq_nil_or_concat' s.window with hw | ⟨w, x, hw⟩
  · rw [rembBody_of_nil hw]
    exact ⟨rfl, rfl⟩
  · rw [rembBody_of_append hw]
    exact ⟨rfl, rfl⟩

/-- Settles O29: a legal command ends as its body does, an illegal one with ILL, and seven commands are always legal. -/
theorem commandFrames : Obligations.CommandFrames := by
  intro i s t h
  rcases exec_cases h with ⟨-, rfl⟩ | ⟨hbad, rfl⟩
  · cases i with
    | mdiv => exact (mdivBody_outcome s).imp_right (.imp_right .inr)
    | minv => exact (minvBody_outcome s).imp_right (.imp_right .inr)
    | appb => exact (appbBody_outcome s).imp_right (.imp_right .inr)
    | appf => exact (appfBody_outcome s).imp_right (.imp_right .inr)
    | remf => exact remfBody_outcome s
    | remb => exact (rembBody_outcome s).imp_right .inl
    | nop | mred | madd | msub | mmul | clear => exact ⟨rfl, rfl⟩
  · have hill := faultedWith_fail .ill s
    cases i with
    | mdiv => exact ⟨rfl, .inr (.inl hill)⟩
    | minv => exact ⟨rfl, .inr (.inl hill)⟩
    | appb => exact ⟨rfl, .inr (.inl hill)⟩
    | appf => exact ⟨rfl, .inr (.inl hill)⟩
    | remb => exact ⟨rfl, .inr hill⟩
    | nop | mred | madd | msub | mmul | remf | clear => exact absurd (wellFormed_of_inReduced rfl (by simp) _ _) hbad

end Sys2Proof
end

section
/-! The registers OPA, OPB and WIDX, which no command reads or writes (R34, R204). -/

namespace Sys2Proof.Machine

/-- The state with other values in the three registers the host writes. -/
def withHostRegs (a b w : Word) (s : State) : State := { s with opa := a, opb := b, widx := w }

theorem withHostRegs_ite {a b w : Word} {p : Prop} [Decidable p] {s t s' t' : State} (hs : withHostRegs a b w s = s')
    (ht : withHostRegs a b w t = t') : withHostRegs a b w (if p then s else t) = if p then s' else t' := by
  split
  · exact hs
  · exact ht

theorem withHostRegs_grow_finish (a b w : Word) (s : State) :
    withHostRegs a b w s.grow.finish = (withHostRegs a b w s).grow.finish := by
  rw [State.grow_frame, State.grow_frame (withHostRegs a b w s), State.grow_pt, State.grow_pt]
  rfl

theorem withHostRegs_remfBody (a b w : Word) (s : State) :
    withHostRegs a b w (remfBody s) = remfBody (withHostRegs a b w s) := by
  cases hw : s.window with
  | nil =>
    rw [remfBody_of_nil hw, remfBody_of_nil (s := withHostRegs a b w s) hw]
    rfl
  | cons x rest =>
    rw [remfBody_of_cons hw, remfBody_of_cons (s := withHostRegs a b w s) hw]
    rfl

theorem withHostRegs_rembBody (a b w : Word) (s : State) :
    withHostRegs a b w (rembBody s) = rembBody (withHostRegs a b w s) := by
  rcases List.eq_nil_or_concat' s.window with hw | ⟨rest, x, hw⟩
  · rw [rembBody_of_nil hw, rembBody_of_nil (s := withHostRegs a b w s) hw]
    rfl
  · rw [rembBody_of_append hw, rembBody_of_append (s := withHostRegs a b w s) hw]
    rfl

theorem withHostRegs_commandBody (a b w : Word) (i : Instr) (s : State) :
    withHostRegs a b w (commandBody i s) = commandBody i (withHostRegs a b w s) := by
  cases i with
  | mdiv => exact withHostRegs_ite rfl rfl
  | minv => exact withHostRegs_ite rfl rfl
  | appb => exact withHostRegs_ite rfl (withHostRegs_grow_finish a b w _)
  | appf => exact withHostRegs_ite rfl (withHostRegs_grow_finish a b w _)
  | remf => exact withHostRegs_remfBody a b w s
  | remb => exact withHostRegs_rembBody a b w s
  | nop | mred | madd | msub | mmul | clear => rfl

theorem exec_withHostRegs {i : Instr} {s t : State} (a b w : Word) (h : exec i s = .next t) :
    exec i (withHostRegs a b w s) = .next (withHostRegs a b w t) := by
  rcases exec_cases h with ⟨hwf, rfl⟩ | ⟨hbad, rfl⟩
  · rw [exec_of_wellFormed (s := withHostRegs a b w s) hwf, withHostRegs_commandBody]
  · exact exec_of_not_wellFormed (s := withHostRegs a b w s) hbad

/-- Settles O45: decoding reads LOP and LA alone, and every command's meaning commutes with the host's writes. -/
theorem latchesIsolateTheCommand : Obligations.LatchesIsolateTheCommand := by
  intro s t a b w h
  change complete (withHostRegs a b w s) = .next (withHostRegs a b w t)
  rcases complete_cases h with ⟨⟨e, he⟩, rfl⟩ | ⟨i, hi, hex⟩
  · rw [complete_of_error (s := withHostRegs a b w s) he]
    rfl
  · rw [complete_of_ok (s := withHostRegs a b w s) hi, exec_withHostRegs a b w hex]

end Sys2Proof.Machine
end

section
/-! The power table between CLEARs and resets (R29). -/

namespace Sys2Proof.Machine

theorem pt_prefix_of_eq {s t : State} (h : t.pt = s.pt) : s.pt <+: t.pt := by
  rw [h]

/-- A push may fault, and else only grows the table. -/
theorem guarded_grow_pt_prefix {p : Prop} [Decidable p] {f : FaultBit} {s u : State} (hu : u.pt = s.pt) :
    s.pt <+: (if p then s.fail f else u.grow.finish).pt := by
  split
  · exact List.prefix_refl _
  · rw [← hu]
    exact u.grow_pt_prefix

/-- Only CLEAR takes entries away from the power table. -/
theorem commandBody_pt_prefix {i : Instr} (hi : i ≠ .clear) (s : State) : s.pt <+: (commandBody i s).pt := by
  cases i with
  | mdiv => exact pt_prefix_of_eq (mdivBody_outcome s).1.pt_eq
  | minv => exact pt_prefix_of_eq (minvBody_outcome s).1.pt_eq
  | remf => exact pt_prefix_of_eq (remfBody_outcome s).1.pt_eq
  | remb => exact pt_prefix_of_eq (rembBody_outcome s).1.pt_eq
  | appb => exact guarded_grow_pt_prefix rfl
  | appf => exact guarded_grow_pt_prefix rfl
  | clear => exact absurd rfl hi
  | nop | mred | madd | msub | mmul => exact List.prefix_refl _

theorem complete_pt_prefix {s t : State} (h : complete s = .next t) (hi : s.lop ≠ encode .clear) : s.pt <+: t.pt := by
  rcases complete_cases h with ⟨-, rfl⟩ | ⟨i, hdec, he⟩
  · exact List.prefix_refl _
  rcases exec_cases he with ⟨-, rfl⟩ | ⟨-, rfl⟩
  · refine commandBody_pt_prefix ?_ s
    rintro rfl
    exact hi ((decodeWord_eq_ok_iff _ _).1 ((decode_eq_ok_iff _ _ _ _).1 hdec).1)
  · exact List.prefix_refl _

theorem resetTable_of_grown {c : Config} (h : c.ptMode = .grown) : resetTable c = [1#64] := by
  rw [resetTable, h]

theorem clearedTable_of_grown {s : State} (h : s.cfg.ptMode = .grown) : clearedTable s = [1#64] := by
  rw [clearedTable, h]

/-- Settles O56: outside reset only a completion changes the table, where every command but CLEAR keeps its entries. -/
theorem powerTableIsMonotone : Obligations.PowerTableIsMonotone := by
  intro s t hmode hstep
  rcases step_cases hstep with ⟨hr, rfl⟩ | ⟨hr, -, hdue, hc⟩ | ⟨hr, -, hdue, rfl⟩
  · exact ⟨fun hnot => by simp [hr] at hnot, fun _ => resetTable_of_grown hmode⟩
  · refine ⟨fun _ hother => complete_pt_prefix hc (hother hdue), ?_⟩
    rintro (hreset | ⟨-, hclear⟩)
    · simp [hr] at hreset
    · rw [complete_clear hc hclear]
      exact clearedTable_of_grown hmode
  · obtain ⟨-, -, -, -, hpt⟩ := busMove_core s
    refine ⟨fun _ _ => pt_prefix_of_eq hpt, ?_⟩
    rintro (hreset | ⟨hcomplete, -⟩)
    · simp [hr] at hreset
    · simp [hdue] at hcomplete

end Sys2Proof.Machine
end

section
/-! What reads of STATUS, the parameters, CONFIG and WDATA show (R30, R32, R33, R36). -/

namespace Sys2Proof.Machine

theorem Status.word_getLsbD (st : Status) (j : Nat) : st.word.getLsbD j =
    if j = 0 then st.busy else if j = 1 then st.ill else if j = 2 then st.dz else if j = 3 then st.ovf
    else if j = 4 then st.ovr else false := by
  rw [Status.word, BitVec.getLsbD_append, BitVec.getLsbD_append, BitVec.getLsbD_append, BitVec.getLsbD_append,
    BitVec.getLsbD_append]
  match j with
  | 0 | 1 | 2 | 3 | 4 => simp
  | j + 5 => simp

theorem Status.err_eq_true_iff (st : Status) :
    st.err = true ↔ st.ill = true ∨ st.dz = true ∨ st.ovf = true ∨ st.ovr = true := by
  simp [Status.err, or_assoc]

theorem State.pins_of_not_resetDue {s : State} (h : resetDue s = false) :
    s.pins = { reqReady := s.outstanding.isNone && s.reqStall == 0, rsp := if s.rspDelay = 0 then s.outstanding else none,
               busy := s.status.busy, err := s.status.err } := by
  simp [State.pins, h]

/-- A register's value that fits is read back as it is. -/
theorem countView_toNat {n : Nat} (h : n < 2 ^ 64) : (countView n).toNat = n := by
  rw [countView, if_pos h, zext64_toNat h]

theorem readSettled_of_idle {s : State} (h : s.status.busy = false) (v : Word) : readSettled v s = (s, v) := by
  simp [readSettled, h]

theorem readSettled_of_busy {s : State} (h : s.status.busy = true) (v : Word) :
    readSettled v s = (s.drawn, Config.freeRead s.draws) := by
  simp [readSettled, h]

theorem perform_read_wdata (s : State) :
    perform (readRequest .wdata) s = ((readSettled (wdataView s) s).1, okResponse (readSettled (wdataView s) s).2) :=
  perform_readRequest .wdata s

theorem wdataView_of_lt {s : State} (h : s.widx.toNat < s.window.length) : wdataView s = s.window[s.widx.toNat] :=
  List.getD_eq_getElem _ _ h

theorem wdataView_of_le {s : State} (h : s.window.length ≤ s.widx.toNat) : wdataView s = 0#64 :=
  List.getD_eq_default _ _ h

theorem lt_two_pow_bitLength (n : Nat) : n < 2 ^ bitLength n := by
  unfold bitLength
  split
  · next h => simp [h]
  · exact Nat.lt_log2_self

theorem two_pow_bitLength_le {n : Nat} (h : n ≠ 0) : 2 ^ (bitLength n - 1) ≤ n := by
  rw [bitLength, if_neg h, Nat.add_sub_cancel]
  exact Nat.log2_self_le h

/-- RES_W is a residue's width (R8). -/
theorem lt_two_pow_resW (c : Config) : c.mod - 1 < 2 ^ resW c :=
  (lt_two_pow_bitLength _).trans_le (Nat.pow_le_pow_right (by omega) (le_max_right _ _))

/-- RES_W is no wider than a residue needs (R8). -/
theorem resW_minimal (c : Config) : resW c = 1 ∨ 2 ^ (resW c - 1) ≤ c.mod - 1 := by
  by_cases h : c.mod - 1 = 0
  · left
    simp [resW, bitLength, h]
  · right
    have hone : 1 ≤ bitLength (c.mod - 1) := by simp [bitLength, h]
    rw [resW, max_eq_right hone]
    exact two_pow_bitLength_le h

/-- With legal parameters RES_W fits its field of CONFIG (R14, R33). -/
theorem resW_lt_field {c : Config} (h : c.Legal) : resW c < 2 ^ 8 := by
  rcases resW_minimal c with hone | hle
  · omega
  · have hmod := mod_lt_word h
    have hlt : resW c - 1 < 64 := (Nat.pow_lt_pow_iff_right (a := 2) (by omega)).1 (by omega)
    omega

theorem configWord_elemW (c : Config) : (configWord c).extractLsb' 0 8 = BitVec.ofNat 8 c.elemW := by
  rw [configWord, BitVec.extractLsb'_append_eq_of_add_le (by decide), BitVec.extractLsb'_append_eq_of_add_le (by decide),
    BitVec.extractLsb'_append_eq_of_add_le (by decide), BitVec.extractLsb'_append_eq_right]

theorem configWord_resW (c : Config) : (configWord c).extractLsb' 8 8 = BitVec.ofNat 8 (resW c) := by
  rw [configWord, BitVec.extractLsb'_append_eq_of_add_le (by decide), BitVec.extractLsb'_append_eq_of_add_le (by decide),
    BitVec.extractLsb'_append_eq_of_add_le (by decide), BitVec.extractLsb'_append_eq_left]

theorem configWord_ptMode (c : Config) : (configWord c).getLsbD 16 = true ↔ c.ptMode = .rom := by
  rw [configWord, BitVec.getLsbD_append, BitVec.getLsbD_append, BitVec.getLsbD_append]
  cases h : c.ptMode <;> simp [ptModeBit, h]

theorem configWord_variant (c : Config) : (configWord c).getLsbD 17 = true ↔ c.variant = .reduced := by
  rw [configWord, BitVec.getLsbD_append, BitVec.getLsbD_append]
  cases h : c.variant <;> simp [variantBit, h]

theorem configWord_reserved (c : Config) : (configWord c).extractLsb' 18 46 = 0#46 := BitVec.extractLsb'_append_eq_left

/-- Settles O37: the fields of CONFIG are cut out of the word one by one; ELEM_W and RES_W fit theirs by R14. -/
theorem configLayout : Obligations.ConfigLayout := by
  refine ⟨fun s t => step_cfg, fun s legal => ⟨configWord s.cfg, perform_readRequest .config s, ?_⟩⟩
  have hresW := resW_lt_field legal
  obtain ⟨-, -, -, -, -, helemW, -⟩ := legal
  refine ⟨?_, ?_, lt_two_pow_resW s.cfg, resW_minimal s.cfg, configWord_ptMode s.cfg, configWord_variant s.cfg,
    configWord_reserved s.cfg⟩
  · rw [configWord_elemW, BitVec.toNat_ofNat, Nat.mod_eq_of_lt (by omega)]
  · rw [configWord_resW, BitVec.toNat_ofNat, Nat.mod_eq_of_lt hresW]

/-- Settles O35: the word is the five bits appended, and outside reset the outputs are read from the state. -/
theorem statusLayout : Obligations.StatusLayout := by
  refine ⟨Status.word_getLsbD, fun s hs => ?_⟩
  rw [State.pins_of_not_resetDue hs]
  exact ⟨rfl, s.status.err_eq_true_iff, fun rsp hpending => by simp [hpending]⟩

/-- Settles O36: the three reads change nothing, and a legal MOD, the smaller BASE and a WIN_CAP that fits are shown
whole. -/
theorem parametersReadBack : Obligations.ParametersReadBack := by
  refine ⟨fun s t => step_cfg, fun s legal hcap => ?_⟩
  have hmod := mod_lt_word legal
  obtain ⟨-, -, hbase, -⟩ := legal
  exact ⟨⟨_, perform_readRequest .modr s, zext64_toNat hmod⟩,
    ⟨_, perform_readRequest .baser s, zext64_toNat (hbase.trans hmod)⟩,
    ⟨_, perform_readRequest .capr s, countView_toNat hcap⟩⟩

/-- Settles O38: the read is one of `wdataView`, settled while idle and a draw while busy. -/
theorem wdataShowsTheElement : Obligations.WdataShowsTheElement := by
  intro s
  refine ⟨fun hidle hlt => ?_, fun hidle hle => ?_, fun hbusy => ?_⟩
  · rw [perform_read_wdata, readSettled_of_idle hidle, wdataView_of_lt hlt]
  · rw [perform_read_wdata, readSettled_of_idle hidle, wdataView_of_le hle]
  · rw [perform_read_wdata, readSettled_of_busy hbusy]
    rfl

end Sys2Proof.Machine
end

section
/-! What one access does, by its shape, its offset and its direction (R54, R57 to R62), and how the platform sees the
register slots (R53, R55). -/

namespace Sys2Proof.Machine

/-- The register map is one to one: an offset reaches a register exactly when it is that register's own (R57). -/
theorem ofOffset_eq_some_iff (a : BitVec 8) (reg : Reg) : Reg.ofOffset a = some reg ↔ a = reg.offset := by
  constructor
  · intro h
    obtain ⟨front, back, hmap, -⟩ := List.lookup_eq_some_iff.1 h
    have hrow : ∀ row ∈ registerMap, row.1 = row.2.offset := by decide
    exact hrow (a, reg) (by simp [hmap])
  · rintro rfl
    exact ofOffset_offset reg

theorem offset_lt (reg : Reg) : reg.offset.toNat < 0x70 := by
  cases reg <;> decide

/-- The map has no gap below 0x70 (R57). -/
theorem exists_offset_eq {a : BitVec 8} (haligned : a.toNat % 8 = 0) (hlt : a.toNat < 0x70) :
    ∃ reg : Reg, a = reg.offset := by
  have hslots : ∀ k < 14, (Reg.ofOffset (BitVec.ofNat 8 (8 * k))).isSome := by decide
  have ha : BitVec.ofNat 8 (8 * (a.toNat / 8)) = a := by
    rw [Nat.mul_div_cancel' (Nat.dvd_of_mod_eq_zero haligned), BitVec.ofNat_toNat, BitVec.setWidth_eq]
  have hsome := hslots (a.toNat / 8) (by omega)
  rw [ha, Option.isSome_iff_exists] at hsome
  exact hsome.imp fun reg h => (ofOffset_eq_some_iff a reg).1 h

theorem wellShaped_iff (r : Request) : wellShaped r = true ↔ r.size = 3#2 ∧ r.addr.toNat % 8 = 0 := by
  rw [wellShaped, Bool.and_eq_true, beq_iff_eq, beq_iff_eq, ← BitVec.toNat_inj (x := r.addr.extractLsb' 0 3),
    BitVec.extractLsb'_toNat]
  simp

/-- An access of the wrong shape, or of no register, is refused (R54, R60). -/
theorem perform_of_no_register {r : Request} (s : State) (h : wellShaped r = true → Reg.ofOffset r.addr = none) :
    perform r s = (s, busError) := by
  unfold perform
  split
  · rfl
  · next hshape =>
    rw [h (by simpa using hshape)]

theorem perform_read {r : Request} {reg : Reg} (s : State) (hshape : wellShaped r = true) (haddr : r.addr = reg.offset)
    (hread : r.we = false) : perform r s = ((readReg reg s).1, okResponse (readReg reg s).2) := by
  rw [perform, if_neg (by simp [hshape]), haddr, ofOffset_offset]
  simp [hread]

theorem eq_writeRequest {r : Request} {reg : Reg} (hsize : r.size = 3#2) (haddr : r.addr = reg.offset)
    (hwrite : r.we = true) : r = writeRequest reg r.wdata := by
  cases r
  subst hsize haddr hwrite
  rfl

theorem perform_write_of_some {reg : Reg} {v : Word} {s t : State} (h : writeReg reg v s = some t) :
    perform (writeRequest reg v) s = (t, okResponse 0#64) := by
  rw [perform_writeRequest, h]

theorem perform_write_err {r : Request} {reg : Reg} {s t : State} (hsize : r.size = 3#2) (hwrite : r.we = true)
    (haddr : r.addr = reg.offset) (h : writeReg reg r.wdata s = some t) : (perform r s).2.err = false := by
  rw [eq_writeRequest hsize haddr hwrite, perform_write_of_some h]
  rfl

theorem perform_write_of_none {reg : Reg} {v : Word} {s : State} (h : writeReg reg v s = none) :
    perform (writeRequest reg v) s = (s, busError) := by
  rw [perform_writeRequest, h]

/-- A read that changes nothing answers the value it reads. -/
theorem perform_read_of_eq {reg : Reg} {s : State} {v : Word} (h : readReg reg s = (s, v)) :
    perform (readRequest reg) s = (s, okResponse v) := by
  rw [perform_readRequest, h]

theorem countView_of_lt {n : Nat} (h : n < 2 ^ 64) : countView n = zext64 n := if_pos h

/-- CMD, OPA, OPB and WIDX are the only registers the host can write (R60). -/
theorem writeReg_eq_none {reg : Reg} (hcmd : reg ≠ .cmd) (hopa : reg ≠ .opa) (hopb : reg ≠ .opb) (hwidx : reg ≠ .widx)
    (v : Word) (s : State) : writeReg reg v s = none := by
  cases reg with
  | cmd => exact absurd rfl hcmd
  | opa => exact absurd rfl hopa
  | opb => exact absurd rfl hopb
  | widx => exact absurd rfl hwidx
  | result | hash | wlen | plen | status | modr | baser | capr | config | wdata => rfl

/-- A read is refused without a change, or reads a register. -/
theorem perform_read_cases {r : Request} (s : State) (hread : r.we = false) :
    perform r s = (s, busError) ∨ ∃ reg, perform r s = ((readReg reg s).1, okResponse (readReg reg s).2) := by
  by_cases hshape : wellShaped r = true
  · cases hreg : Reg.ofOffset r.addr with
    | none => exact .inl (perform_of_no_register s fun _ => hreg)
    | some reg => exact .inr ⟨reg, perform_read s hshape ((ofOffset_eq_some_iff _ _).1 hreg) hread⟩
  · exact .inl (perform_of_no_register s fun h => absurd h hshape)

/-- Settles O43: a refused access has a bad shape, reaches no register, or writes one of the ten that cannot be written;
every other access reads or writes a register. -/
theorem busErrorsChangeNothing : Obligations.BusErrorsChangeNothing := by
  refine ⟨fun s rsp hmem herr hwell => ?_, fun r s => ⟨fun hbad => ?_, fun hsize haligned hlt hread => ?_,
    fun hsize hwrite haddr => ?_⟩⟩
  · obtain ⟨-, -, hok⟩ := hwell
    simp [hok rsp hmem] at herr
  · by_cases hreaches : wellShaped r = true ∧ ∃ reg, Reg.ofOffset r.addr = some reg
    · obtain ⟨hshape, reg, hreg⟩ := hreaches
      obtain ⟨hsize, haligned⟩ := (wellShaped_iff r).1 hshape
      have haddr := (ofOffset_eq_some_iff r.addr reg).1 hreg
      have hlt := offset_lt reg
      rw [← haddr] at hlt
      rcases hbad with hbad | hbad | hbad | ⟨hwrite, hcmd, hopa, hopb, hwidx⟩
      · exact absurd hsize hbad
      · exact absurd haligned hbad
      · omega
      · rw [haddr] at hcmd hopa hopb hwidx
        rw [eq_writeRequest hsize haddr hwrite]
        refine perform_write_of_none (writeReg_eq_none ?_ ?_ ?_ ?_ _ _) <;> rintro rfl <;> contradiction
    · refine perform_of_no_register s fun hshape => ?_
      rw [Option.eq_none_iff_forall_ne_some]
      exact fun reg hreg => hreaches ⟨hshape, reg, hreg⟩
  · obtain ⟨reg, haddr⟩ := exists_offset_eq haligned hlt
    rw [perform_read s ((wellShaped_iff r).2 ⟨hsize, haligned⟩) haddr hread]
    rfl
  · rcases haddr with h | h | h | h
    · exact perform_write_err (reg := .cmd) hsize hwrite h rfl
    · exact perform_write_err (reg := .opa) hsize hwrite h rfl
    · exact perform_write_err (reg := .opb) hsize hwrite h rfl
    · exact perform_write_err (reg := .widx) hsize hwrite h rfl

/-- Settles O39: each offset is its register's own, and with no command in flight every register shows its value. -/
theorem idleReadsReturnTheRegisters : Obligations.IdleReadsReturnTheRegisters := by
  refine ⟨⟨rfl, rfl, rfl, rfl, rfl, rfl, rfl, rfl, rfl, rfl, rfl, rfl, rfl, rfl⟩, fun s hidle => ?_⟩
  have hsettled := readSettled_of_idle hidle
  refine ⟨perform_read_of_eq (reg := .cmd) rfl, perform_read_of_eq (reg := .opa) rfl, perform_read_of_eq (reg := .opb) rfl,
    perform_read_of_eq (reg := .result) (hsettled _), perform_read_of_eq (reg := .hash) (hsettled _), fun hfits => ?_,
    fun hfits => ?_, perform_read_of_eq (reg := .status) rfl, perform_read_of_eq (reg := .modr) rfl,
    perform_read_of_eq (reg := .baser) rfl, fun hfits => ?_, perform_read_of_eq (reg := .config) rfl,
    perform_read_of_eq (reg := .widx) rfl, perform_read_of_eq (reg := .wdata) (hsettled _)⟩
  · rw [← countView_of_lt hfits]
    exact perform_read_of_eq (reg := .wlen) (hsettled _)
  · rw [← countView_of_lt hfits]
    exact perform_read_of_eq (reg := .plen) (hsettled _)
  · rw [← countView_of_lt hfits]
    exact perform_read_of_eq (reg := .capr) rfl

/-- Settles O41: a refused read leaves the state, and a register's read may only draw. -/
theorem readsHaveNoSideEffect : Obligations.ReadsHaveNoSideEffect := by
  intro r s hread
  rcases perform_read_cases s hread with h | ⟨reg, h⟩
  · rw [h]
  · rw [h]
    exact readReg_frame reg s

/-- Settles O42: each of the three writes is one field's update, so a second one finds its value there. -/
theorem operandWritesStore : Obligations.OperandWritesStore := by
  intro v s
  have hopa (s : State) : perform (writeRequest .opa v) s = ({ s with opa := v }, okResponse 0#64) :=
    perform_write_of_some rfl
  have hopb (s : State) : perform (writeRequest .opb v) s = ({ s with opb := v }, okResponse 0#64) :=
    perform_write_of_some rfl
  have hwidx (s : State) : perform (writeRequest .widx v) s = ({ s with widx := v }, okResponse 0#64) :=
    perform_write_of_some rfl
  refine ⟨hopa s, hopb s, hwidx s, ?_⟩
  rintro r (rfl | rfl | rfl)
  · rw [hopa, hopa]
  · rw [hopb, hopb]
  · rw [hwidx, hwidx]

theorem writeCmd_of_idle {s : State} (h : s.status.busy = false) (v : Word) : writeCmd v s = s.accept v := by
  simp [writeCmd, h]

theorem writeCmd_of_busy {s : State} (h : s.status.busy = true) (v : Word) : writeCmd v s = s.raise .ovr := if_pos h

/-- Settles O44: the write answers without an error, and does what `writeCmd` does for that value of BUSY. -/
theorem commandWriteAcceptsOrOverruns : Obligations.CommandWriteAcceptsOrOverruns := by
  intro v s
  have hwrite : perform (writeRequest .cmd v) s = (writeCmd v s, okResponse 0#64) := perform_write_of_some rfl
  rw [hwrite]
  constructor
  · intro hidle
    rw [writeCmd_of_idle hidle]
    exact ⟨s.accept v, rfl, rfl, rfl, rfl, rfl, rfl⟩
  · intro hbusy
    rw [writeCmd_of_busy hbusy]
    rfl

/-- Settles O46: a lane is the 8 bits extracted at `8i`. -/
theorem byteLanesAreLittleEndian : Obligations.ByteLanesAreLittleEndian := by
  intro v i j _ hj
  rw [byteLane, BitVec.getLsbD_extractLsb', decide_eq_true hj, Bool.true_and]

/-- Settles O47: the block's window of 256 addresses has one for each of the offsets. -/
theorem platformAddressesReachOffsets : Obligations.PlatformAddressesReachOffsets := by
  intro c addr a
  have ha := a.isLt
  unfold offsetOf
  split
  · next hin =>
    rw [Option.some.injEq, ← BitVec.toNat_inj, BitVec.toNat_ofNat]
    omega
  · next hout =>
    simp only [reduceCtorEq, false_iff]
    omega

end Sys2Proof.Machine
end

section
/-! What a step does to the bus: one access outstanding at a time, one response for it (R31, R51, R52, R64), and no change
of the core state (R37, R63). -/

namespace Sys2Proof.Machine

theorem busMove_of_response_due {s : State} {rsp : Response} (ho : s.outstanding = some rsp) (hd : s.rspDelay = 0) :
    busMove s = deliver rsp s.tick := by
  simp [busMove, ho, hd]

theorem busMove_of_response_delayed {s : State} {rsp : Response} (ho : s.outstanding = some rsp) (hd : s.rspDelay ≠ 0) :
    busMove s = { s.tick with rspDelay := s.rspDelay - 1 } := by
  simp [busMove, ho, hd]

theorem busMove_of_access {s : State} {op : HostOp} (ho : s.outstanding = none) (hs : s.reqStall = 0)
    (hop : s.host[s.pc]? = some op) : busMove s = transfer op.request s.tick := by
  simp [busMove, ho, hs, hop]

theorem busMove_of_no_access {s : State} (ho : s.outstanding = none) (h : s.reqStall ≠ 0 ∨ s.host[s.pc]? = none) :
    busMove s = s.tick := by
  rcases busMove_cases s with ⟨rsp, hsome, -, -⟩ | ⟨rsp, hsome, -, -⟩ | ⟨op, -, hs, hop, -⟩ | ⟨-, -, hmove⟩
  · simp [ho] at hsome
  · simp [ho] at hsome
  · simp [hs, hop] at h
  · exact hmove

theorem step_of_bus {s : State} (hreset : resetDue s = false) (hwas : s.wasReset = true)
    (hdue : completionDue s = false) : step s = .next (busMove s) := by
  simp [step, hreset, hwas, hdue]

theorem eq_busMove_of_step {s t : State} (h : step s = .next t) (hreset : resetDue s = false)
    (hdue : completionDue s = false) : t = busMove s := by
  rcases step_cases h with ⟨hr, -⟩ | ⟨-, -, hd, -⟩ | ⟨-, -, -, ht⟩
  · simp [hreset] at hr
  · simp [hdue] at hd
  · exact ht

@[simp] theorem transfer_responses (r : Request) (s : State) : (transfer r s).responses = s.responses := by
  rw [transfer_frame]

@[simp] theorem transfer_pc (r : Request) (s : State) : (transfer r s).pc = s.pc := by
  rw [transfer_frame]

theorem pcAfterResponse_of_access {s : State} {r : Request} (h : s.host[s.pc]? = some (.access r)) (rsp : Response) :
    pcAfterResponse s rsp = s.pc + 1 := by
  simp [pcAfterResponse, h]

/-- A completion is a step of the engine alone: the bus is as it was (R201). -/
theorem complete_bus {s t : State} (h : complete s = .next t) :
    t.outstanding = s.outstanding ∧ t.responses = s.responses := by
  rcases complete_cases h with ⟨-, rfl⟩ | ⟨i, -, he⟩
  · exact ⟨rfl, rfl⟩
  · rw [exec_frame he]
    exact ⟨rfl, rfl⟩

/-- The outstanding response stays or is given, whole, as the next one (R52). -/
theorem busMove_of_outstanding {s : State} {rsp : Response} (ho : s.outstanding = some rsp) :
    ((busMove s).outstanding = some rsp ∧ (busMove s).responses = s.responses) ∨
      ((busMove s).outstanding = none ∧ (busMove s).responses = s.responses ++ [rsp]) := by
  by_cases hd : s.rspDelay = 0
  · rw [busMove_of_response_due ho hd]
    exact .inr ⟨rfl, rfl⟩
  · rw [busMove_of_response_delayed ho hd]
    exact .inl ⟨ho, rfl⟩

/-- With no response outstanding there is none to give. -/
theorem busMove_responses_of_none {s : State} (ho : s.outstanding = none) : (busMove s).responses = s.responses := by
  rcases busMove_cases s with ⟨rsp, hsome, -, -⟩ | ⟨rsp, hsome, -, -⟩ | ⟨op, -, -, -, h⟩ | ⟨-, -, h⟩
  · simp [ho] at hsome
  · simp [ho] at hsome
  · simp [h]
  · simp [h]

theorem step_of_outstanding {s t : State} {rsp : Response} (h : step s = .next t) (hreset : resetDue s = false)
    (ho : s.outstanding = some rsp) :
    (t.outstanding = some rsp ∧ t.responses = s.responses) ∨
      (t.outstanding = none ∧ t.responses = s.responses ++ [rsp]) := by
  rcases step_cases h with ⟨hr, -⟩ | ⟨-, -, -, hc⟩ | ⟨-, -, -, rfl⟩
  · simp [hreset] at hr
  · obtain ⟨hout, hrsp⟩ := complete_bus hc
    exact .inl ⟨hout.trans ho, hrsp⟩
  · exact busMove_of_outstanding ho

/-- Responses already given stay, and only the outstanding one can be added (R52, R191). -/
theorem step_responses {s t : State} (h : step s = .next t) :
    t.responses = s.responses ∨ ∃ rsp, s.outstanding = some rsp ∧ t.responses = s.responses ++ [rsp] := by
  rcases step_cases h with ⟨-, rfl⟩ | ⟨-, -, -, hc⟩ | ⟨-, -, -, rfl⟩
  · exact .inl rfl
  · exact .inl (complete_bus hc).2
  · cases ho : s.outstanding with
    | none => exact .inl (busMove_responses_of_none ho)
    | some rsp =>
      rcases busMove_of_outstanding ho with ⟨-, hsame⟩ | ⟨-, hgiven⟩
      · exact .inl hsame
      · exact .inr ⟨rsp, rfl, hgiven⟩

/-- While a response is outstanding the bus only waits for its delay and gives it (R51, R52). -/
theorem busMove_waits {s : State} {rsp : Response} (ho : s.outstanding = some rsp) :
    SameHostSide s (busMove s) ∧
      (s.rspDelay = 0 →
        (busMove s).outstanding = none ∧ ∀ r, s.host[s.pc]? = some (.access r) → (busMove s).pc = s.pc + 1) ∧
      (s.rspDelay ≠ 0 →
        (busMove s).outstanding = some rsp ∧ (busMove s).rspDelay = s.rspDelay - 1 ∧ (busMove s).pc = s.pc) := by
  by_cases hd : s.rspDelay = 0
  · rw [busMove_of_response_due ho hd]
    refine ⟨⟨rfl, rfl, rfl, rfl, rfl, rfl, rfl⟩, fun _ => ⟨rfl, fun r hop => ?_⟩, fun hne => absurd hd hne⟩
    exact pcAfterResponse_of_access (s := s.tick) hop rsp
  · rw [busMove_of_response_delayed ho hd]
    exact ⟨⟨rfl, rfl, rfl, rfl, rfl, rfl, rfl⟩, fun hz => absurd hz hd, fun _ => ⟨ho, rfl, rfl⟩⟩

/-- Settles O57: a move of the bus waits for a response or gives it, performs the next access, or lets a stall pass;
a completion touches no response, and a reset edge gives none. -/
theorem responsesComeOneAtATime : Obligations.ResponsesComeOneAtATime := by
  refine ⟨fun s t h => ⟨step_responses h, fun hreset rsp ho => step_of_outstanding h hreset ho,
    fun hreset hdue rsp ho => ?_, fun hreset hdue ho hidle => ?_⟩, fun s op hreset hwas hdue ho hstall hop => ?_⟩
  · rw [eq_busMove_of_step h hreset hdue]
    exact busMove_waits ho
  · rw [eq_busMove_of_step h hreset hdue, busMove_of_no_access ho hidle]
    exact ⟨⟨rfl, rfl, rfl, rfl, rfl, rfl, rfl⟩, ho, rfl, rfl⟩
  · refine ⟨transfer op.request s.tick, ?_, rfl, ⟨rfl, rfl, rfl, rfl, rfl, rfl, rfl⟩, transfer_responses _ _,
      transfer_pc _ _⟩
    rw [step_of_bus hreset hwas hdue, busMove_of_access ho hstall hop]

/-- Settles O55: a step that is neither a reset edge nor a completion is a move of the bus, which leaves the core alone. -/
theorem coreChangesOnlyAtCompletion : Obligations.CoreChangesOnlyAtCompletion := by
  intro s t h hreset hdue
  rw [eq_busMove_of_step h hreset hdue]
  obtain ⟨hcfg, hresult, hhash, hwindow, hpt⟩ := busMove_core s
  exact ⟨hresult, hhash, hwindow, hpt, hcfg⟩

end Sys2Proof.Machine
end

section
/-! The encoding family (30_encoding.md): decoder and encoder agree, every refused word or element completes with ILL alone,
and a due completion runs what the decoder answers. -/

namespace Sys2Proof

open Sys2Proof.Machine

/-- Settles O2: the decoder's checks on a named command are its well-formedness, and a word names only the command whose
word it is. -/
theorem decodeAcceptsExactlyWellFormedWords : Obligations.DecodeAcceptsExactlyWellFormedWords := by
  intro c lop la i
  rw [decode_eq_ok_iff, decodeWord_eq_ok_iff]

theorem decodeWord_encode (i : Instr) : decodeWord (encode i) = .ok i := (decodeWord_eq_ok_iff _ _).2 rfl

theorem encode_injective : Function.Injective encode := by
  intro i j h
  have hdec : decodeWord (encode i) = .ok j := (decodeWord_eq_ok_iff _ _).2 h
  simpa [decodeWord_encode] using hdec

/-- Settles O1: each word of the table is its command's encoding. -/
theorem tableWordsDecode : Obligations.TableWordsDecode :=
  ⟨decodeWord_encode .nop, decodeWord_encode .mred, decodeWord_encode .madd, decodeWord_encode .msub,
    decodeWord_encode .mmul, decodeWord_encode .mdiv, decodeWord_encode .minv, decodeWord_encode .appb,
    decodeWord_encode .remf, decodeWord_encode .remb, decodeWord_encode .appf, decodeWord_encode .clear⟩

/-- R173 and R174 as one: a completion raises ILL and does nothing else when LOP is no well-formed command's word. -/
theorem complete_raises_ill {s : State} (h : ∀ i, s.lop = encode i → ¬ i.WellFormed s.cfg s.la) :
    ∃ t, complete s = .next t ∧ FaultedWith .ill s t := by
  cases hdec : decode s.cfg s.lop s.la with
  | error e => exact ⟨_, complete_of_error hdec, faultedWith_fail .ill s⟩
  | ok i =>
    obtain ⟨hword, hwf⟩ := (decodeAcceptsExactlyWellFormedWords s.cfg s.lop s.la i).1 hdec
    exact absurd hwf (h i hword)

theorem encode_reserved (i : Instr) : (encode i).extractLsb' 8 56 = 0#56 := BitVec.extractLsb'_append_eq_left

theorem encode_opcode (i : Instr) : (encode i).extractLsb' 0 8 = opcode i := BitVec.extractLsb'_append_eq_right

/-- The gaps of the opcode map (R86). -/
theorem opcode_not_in_gap (i : Instr) :
    ¬ ((0x07 ≤ (opcode i).toNat ∧ (opcode i).toNat ≤ 0x0F) ∨ (0x14 ≤ (opcode i).toNat ∧ (opcode i).toNat ≤ 0x1E) ∨
      0x20 ≤ (opcode i).toNat) := by
  cases i <;> decide

/-- The four commands REDUCED leaves out, by their opcodes (R83). -/
theorem not_inReduced_of_opcode {i : Instr} (h : (opcode i).toNat = 0x05 ∨ (opcode i).toNat = 0x06 ∨
    (opcode i).toNat = 0x12 ∨ (opcode i).toNat = 0x13) : inReduced i = false := by
  cases i with
  | mdiv | minv | remb | appf => rfl
  | nop | mred | madd | msub | mmul | appb | remf | clear => simp [opcode] at h

/-- Settles O3: a command's own word has no reserved bit set. -/
theorem reservedBitsRaiseIll : Obligations.ReservedBitsRaiseIll := by
  intro s hres
  refine complete_raises_ill fun i hword _ => hres ?_
  rw [hword, encode_reserved]

/-- Settles O4: were LOP a command's word, its opcode would be assigned, and under REDUCED the variant lacks the four. -/
theorem unassignedOpcodesRaiseIll : Obligations.UnassignedOpcodesRaiseIll := by
  intro s hill
  refine complete_raises_ill fun i hword hwf => ?_
  simp only [hword, encode_reserved, encode_opcode] at hill
  rcases hill with hres | hgap | hgap | hgap | ⟨hvar, hop⟩
  · exact hres rfl
  · exact opcode_not_in_gap i (.inl hgap)
  · exact opcode_not_in_gap i (.inr (.inl hgap))
  · exact opcode_not_in_gap i (.inr (.inr hgap))
  · obtain ⟨hadmits, -⟩ := hwf
    simp [variantAdmits, hvar, not_inReduced_of_opcode hop] at hadmits

theorem elementInRange_of_push {i : Instr} (hi : i = .appb ∨ i = .appf) (c : Config) (la : Word) :
    elementInRange c la i = elementFits c la := by
  rcases hi with rfl | rfl <;> rfl

theorem elementFits_iff (c : Config) (la : Word) : elementFits c la = true ↔ 64 ≤ c.elemW ∨ la >>> c.elemW = 0#64 := by
  simp [elementFits]

/-- R88's check is the bound on LA as a number. -/
theorem elementFits_iff_lt (c : Config) (la : Word) : elementFits c la = true ↔ la.toNat < 2 ^ c.elemW := by
  rw [elementFits_iff]
  constructor
  · rintro (hw | hshift)
    · exact lt_of_lt_of_le la.isLt (Nat.pow_le_pow_right (by decide) hw)
    · have hdiv : la.toNat / 2 ^ c.elemW = 0 := by
        simpa [Nat.shiftRight_eq_div_pow] using congrArg BitVec.toNat hshift
      exact (Nat.div_eq_zero_iff_lt (Nat.two_pow_pos _)).1 hdiv
  · intro hlt
    right
    apply BitVec.eq_of_toNat_eq
    simp [Nat.shiftRight_eq_div_pow, Nat.div_eq_of_lt hlt]

/-- A push whose element fits takes the whole of LA (R88). -/
theorem push_takes_whole {i : Instr} (hi : i = .appb ∨ i = .appf) {c : Config} {la : Word} (h : elementFits c la = true) :
    elementInRange c la i = true ∧ elementOf c la = la :=
  ⟨(elementInRange_of_push hi c la).trans h, elementOf_toNat c la ((elementFits_iff_lt c la).1 h)⟩

/-- Settles O5: a push whose element does not fit is no well-formed command; one that fits is LA, whose low ELEM_W bits are
all of it. -/
theorem elementRangeIsChecked : Obligations.ElementRangeIsChecked := by
  intro i s hi
  refine ⟨fun hw hbits => ?_, fun _ hzero => push_takes_whole hi ((elementFits_iff _ _).2 (.inr hzero)),
    fun hw => push_takes_whole hi ((elementFits_iff _ _).2 (.inl hw.ge))⟩
  have hbad : ¬ i.WellFormed s.cfg s.la := by
    rintro ⟨-, hrange⟩
    rw [elementInRange_of_push hi, elementFits_iff] at hrange
    rcases hrange with hwide | hzero
    · omega
    · exact hbits hzero
  refine ⟨fun hword => complete_raises_ill fun j hj hwf => ?_, _, exec_of_not_wellFormed hbad, faultedWith_fail .ill s⟩
  obtain rfl : i = j := encode_injective (hword.symm.trans hj)
  exact hbad hwf

theorem step_of_completion {s : State} (hreset : resetDue s = false) (hwas : s.wasReset = true)
    (hdue : completionDue s = true) : step s = complete s := by
  simp [step, hreset, hwas, hdue]

theorem withFetchWord_encode (s : State) (i : Instr) :
    s.withFetchWord 64 (encode i).toNat = s.withCommand (encode i) := by
  rw [State.withFetchWord, Nat.mod_eq_of_lt (encode i).isLt, BitVec.ofNat_toNat, BitVec.setWidth_eq]

theorem rstPutOff_head_ne_zero (l : List Nat) : (rstPutOff l).head? ≠ some 0 := by
  match l with
  | [] | 0 :: _ | (_ + 1) :: _ => simp [rstPutOff]

/-- A placed command comes before the reset edge it puts off (log entry 9). -/
theorem resetDue_withCommand (v : Word) (s : State) : resetDue (s.withCommand v) = false := by
  simp [resetDue, rstPutOff_head_ne_zero]

theorem completionDue_withCommand (v : Word) (s : State) : completionDue (s.withCommand v) = true := rfl

/-- Settles O53: a due completion is the engine's step, which runs or refuses what LOP decodes to, and a placed
well-formed command is due and decodes to itself. -/
theorem stepRunsTheDecodedCommand : Obligations.StepRunsTheDecodedCommand := by
  refine ⟨fun s hreset hwas hdue => ?_, fun s i hreset hwas hbusy hdelay hdec => ?_, fun s i hwf => ?_⟩
  · have hstep := step_of_completion hreset hwas hdue
    exact ⟨hstep, fun e hdec => ⟨_, hstep.trans (complete_of_error hdec), faultedWith_fail .ill s⟩⟩
  · have hdue : completionDue s = true := by simp [completionDue, hbusy, hdelay]
    rw [step_of_completion hreset hwas hdue, complete_of_ok hdec]
  · rw [withFetchWord_encode, step_of_completion (resetDue_withCommand _ s) rfl (completionDue_withCommand _ s)]
    exact complete_of_ok ((decodeAcceptsExactlyWellFormedWords _ _ _ _).2 ⟨rfl, hwf⟩)

theorem pcAfterResponse_of_wait {s : State} (h : s.host[s.pc]? = some .wait) (rsp : Response) :
    pcAfterResponse s rsp = if rsp.rdata.getLsbD 0 then s.pc else s.pc + 1 := by
  simp [pcAfterResponse, h]

/-- Settles O58: the step gives the response, and the host's position follows the STATUS read. -/
theorem waitRepeatsWhileBusy : Obligations.WaitRepeatsWhileBusy := by
  refine ⟨rfl, fun s rsp hreset hwas hdue hout hdelay hop => ⟨deliver rsp s.tick, ?_, rfl, ?_⟩⟩
  · rw [step_of_bus hreset hwas hdue, busMove_of_response_due hout hdelay]
  · exact pcAfterResponse_of_wait (s := s.tick) hop rsp

end Sys2Proof
end

section
/-! The arithmetic of residues behind 40_modular_arith.md: what the units answer on reduced operands, and how inverse and
subtraction undo multiplication and addition (R103 to R111). -/

namespace Sys2Proof.Machine

theorem red_zext64 {c : Config} (h : c.Legal) {n : Nat} (hn : n < c.mod) : red c (zext64 n) = n := by
  rw [red, zext64_toNat (hn.trans (mod_lt_word h)), Nat.mod_eq_of_lt hn]

theorem modAdd_comm (c : Config) (a b : Nat) : modAdd c a b = modAdd c b a := congrArg (· % c.mod) (add_comm a b)

theorem modMul_comm (c : Config) (a b : Nat) : modMul c a b = modMul c b a := congrArg (· % c.mod) (mul_comm a b)

theorem modAdd_red (c : Config) (a b : Word) : modAdd c (red c a) (red c b) = (a.toNat + b.toNat) % c.mod :=
  (red_modEq c a).add (red_modEq c b)

theorem modMul_red (c : Config) (a b : Word) : modMul c (red c a) (red c b) = a.toNat * b.toNat % c.mod :=
  (red_modEq c a).mul (red_modEq c b)

/-- R104's unsigned form is the source's integer difference: adding MOD leaves the residue. -/
theorem modSub_intCast {c : Config} {b : Nat} (hb : b < c.mod) (a : Nat) :
    (modSub c a b : Int) = ((a : Int) - b) % c.mod := by
  have hshift : ((a + c.mod - b : Nat) : Int) = (a : Int) - b + c.mod := by omega
  rw [modSub, Int.natCast_emod, hshift, Int.add_emod_right]

theorem modSub_red_intCast {c : Config} (h : c.Legal) (a b : Word) :
    (modSub c (red c a) (red c b) : Int) = ((a.toNat : Int) - b.toNat) % c.mod := by
  rw [modSub_intCast (red_lt h b), red, red, Int.natCast_emod, Int.natCast_emod, ← Int.sub_emod]

theorem modSub_modAdd {c : Config} {a b : Nat} (ha : a < c.mod) (hb : b < c.mod) : modSub c (modAdd c a b) b = a := by
  rw [modSub_of_add_modEq hb (a := modAdd c a b) (Nat.mod_modEq (a + b) c.mod).symm, Nat.mod_eq_of_lt ha]

theorem modSub_self {c : Config} {a : Nat} (ha : a < c.mod) : modSub c a a = 0 := by
  rw [modSub_of_add_modEq ha (by rw [zero_add]), Nat.zero_mod]

theorem one_mod_mod {c : Config} (h : c.Legal) : 1 % c.mod = 1 := Nat.mod_eq_of_lt (one_lt_mod h)

theorem modMul_modInv {c : Config} (h : c.Legal) {x : Nat} (h0 : 0 < x) (hx : x < c.mod) :
    modMul c x (modInv c x) = 1 := by
  rw [← one_mod_mod h]
  exact mul_modInv_modEq_one h h0 hx

/-- R107: a factor and its inverse cancel. -/
theorem mul_mul_modInv_modEq {c : Config} (h : c.Legal) {b : Nat} (h0 : 0 < b) (hb : b < c.mod) (a : Nat) :
    a * b * modInv c b ≡ a [MOD c.mod] :=
  calc a * b * modInv c b
      = a * (b * modInv c b) := mul_assoc _ _ _
    _ ≡ a * 1 [MOD c.mod] := (mul_modInv_modEq_one h h0 hb).mul_left a
    _ = a := mul_one a

/-- R107: whatever multiplies `x` to one is congruent to `modInv x`, which multiplies it to one too. -/
theorem eq_modInv {c : Config} (h : c.Legal) {x y : Nat} (h0 : 0 < x) (hx : x < c.mod) (hy : y < c.mod)
    (hxy : x * y ≡ 1 [MOD c.mod]) : y = modInv c x := by
  have hcongr : y ≡ modInv c x [MOD c.mod] :=
    calc y ≡ y * x * modInv c x [MOD c.mod] := (mul_mul_modInv_modEq h h0 hx y).symm
      _ = x * y * modInv c x := by rw [mul_comm y x]
      _ ≡ 1 * modInv c x [MOD c.mod] := hxy.mul_right _
      _ = modInv c x := one_mul _
  exact hcongr.eq_of_lt_of_lt hy (modInv_lt h x)

/-- R109: multiplying the quotient by the divisor gives the dividend. -/
theorem modMul_modInv_mul_modEq {c : Config} (h : c.Legal) {b : Nat} (h0 : 0 < b) (hb : b < c.mod) (a : Nat) :
    modMul c a (modInv c b) * b ≡ a [MOD c.mod] :=
  calc modMul c a (modInv c b) * b
      ≡ a * modInv c b * b [MOD c.mod] := (Nat.mod_modEq _ _).mul_right b
    _ = a * b * modInv c b := mul_right_comm _ _ _
    _ ≡ a [MOD c.mod] := mul_mul_modInv_modEq h h0 hb a

/-- R111: dividing the product by a factor gives the other factor. -/
theorem modMul_modMul_modInv {c : Config} (h : c.Legal) {a b : Nat} (ha : a < c.mod) (h0 : 0 < b) (hb : b < c.mod) :
    modMul c (modMul c a b) (modInv c b) = a := by
  have hcongr : modMul c (modMul c a b) (modInv c b) ≡ a [MOD c.mod] :=
    calc modMul c (modMul c a b) (modInv c b)
        ≡ modMul c a b * modInv c b [MOD c.mod] := Nat.mod_modEq _ _
      _ ≡ a * b * modInv c b [MOD c.mod] := (Nat.mod_modEq _ _).mul_right _
      _ ≡ a [MOD c.mod] := mul_mul_modInv_modEq h h0 hb a
  exact hcongr.eq_of_lt_of_lt (modMul_lt h _ _) ha

/-- Settles O10: the loop with `e` rounds is the power. -/
theorem modpowIsPower : Obligations.ModpowIsPower := fun _ x e hmod _ => modpow_eq hmod x e

/-- Settles O11: Fermat's little theorem gives the inverse, and two inverses are congruent. -/
theorem inverseIsUniqueInverse : Obligations.InverseIsUniqueInverse := by
  intro c x h h0 hx
  refine ⟨rfl, modInv_lt h x, modMul_modInv h h0 hx, fun y hy hxy => eq_modInv h h0 hx hy ?_⟩
  rw [← one_mod_mod h] at hxy
  exact hxy

end Sys2Proof.Machine
end

section
/-! What the modular arithmetic commands answer (R102 to R109), and the laws of their results (R111). -/

namespace Sys2Proof

open Sys2Proof.Machine

/-- Under FULL only the pushes have a check, that of their element (R86, R88). -/
theorem wellFormed_of_full {c : Config} {i : Instr} (h : c.variant = .full) (hb : i ≠ .appb) (hf : i ≠ .appf)
    (la : Word) : i.WellFormed c la := by
  constructor
  · rw [variantAdmits, h]
  · cases i with
    | appb => exact absurd rfl hb
    | appf => exact absurd rfl hf
    | _ => rfl

/-- REDUCED has no division (R86). -/
theorem exec_of_reduced {i : Instr} {s : State} (h : s.cfg.variant = .reduced) (hi : inReduced i = false) :
    exec i s = .next (s.fail .ill) := by
  refine exec_of_not_wellFormed ?_
  rintro ⟨hadmits, -⟩
  rw [variantAdmits, h, hi] at hadmits
  cases hadmits

theorem exec_mred (s : State) : exec .mred s = .next (s.setResult (operandA s)).finish :=
  exec_of_wellFormed (wellFormed_of_inReduced rfl (by simp) _ _)

theorem exec_madd (s : State) : exec .madd s = .next (s.setResult (modAdd s.cfg (operandA s) (operandB s))).finish :=
  exec_of_wellFormed (wellFormed_of_inReduced rfl (by simp) _ _)

theorem exec_msub (s : State) : exec .msub s = .next (s.setResult (modSub s.cfg (operandA s) (operandB s))).finish :=
  exec_of_wellFormed (wellFormed_of_inReduced rfl (by simp) _ _)

theorem exec_mmul (s : State) : exec .mmul s = .next (s.setResult (modMul s.cfg (operandA s) (operandB s))).finish :=
  exec_of_wellFormed (wellFormed_of_inReduced rfl (by simp) _ _)

section
variable {s : State} (hfull : s.cfg.variant = .full)
include hfull

theorem exec_minv_of_zero (h : operandA s = 0) : exec .minv s = .next (s.fail .dz) := by
  rw [exec_of_wellFormed (wellFormed_of_full hfull (by simp) (by simp) _), commandBody, minvBody_of_zero h]

theorem exec_minv_of_ne_zero (h : operandA s ≠ 0) :
    exec .minv s = .next (s.setResult (modInv s.cfg (operandA s))).finish := by
  rw [exec_of_wellFormed (wellFormed_of_full hfull (by simp) (by simp) _), commandBody, minvBody_of_ne_zero h]

theorem exec_mdiv_of_zero (h : operandB s = 0) : exec .mdiv s = .next (s.fail .dz) := by
  rw [exec_of_wellFormed (wellFormed_of_full hfull (by simp) (by simp) _), commandBody, mdivBody_of_zero h]

theorem exec_mdiv_of_ne_zero (h : operandB s ≠ 0) :
    exec .mdiv s = .next (s.setResult (modMul s.cfg (operandA s) (modInv s.cfg (operandB s)))).finish := by
  rw [exec_of_wellFormed (wellFormed_of_full hfull (by simp) (by simp) _), commandBody, mdivBody_of_ne_zero h]

end

/-- A command that writes a residue to RESULT shows it there whole, changes no more, and completes clean (R23, R201). -/
theorem exec_writes_residue {i : Instr} {s : State} {v : Nat} (hl : s.cfg.Legal) (hv : v < s.cfg.mod)
    (he : exec i s = .next (s.setResult v).finish) :
    ∃ t, exec i s = .next t ∧ t.result.toNat = v ∧ SameButResult s t ∧ CompletedClean s t :=
  ⟨_, he, zext64_toNat (hv.trans (mod_lt_word hl)), rfl, rfl⟩

theorem exec_raises {i : Instr} {s : State} {f : FaultBit} (he : exec i s = .next (s.fail f)) :
    ∃ t, exec i s = .next t ∧ FaultedWith f s t :=
  ⟨_, he, faultedWith_fail f s⟩

/-- Settles O6: the operand of MRED is the residue already. -/
theorem mredReduces : Obligations.MredReduces :=
  ⟨decodeWord_encode .mred, fun s hl => exec_writes_residue hl (red_lt hl s.la) (exec_mred s)⟩

/-- Settles O7. -/
theorem maddAdds : Obligations.MaddAdds :=
  ⟨decodeWord_encode .madd, fun s hl => exec_writes_residue hl (modAdd_lt hl _ _) (exec_madd s)⟩

/-- Settles O8: the unsigned form is the unit's own, the integer form `modSub_intCast`. -/
theorem msubSubtracts : Obligations.MsubSubtracts := by
  refine ⟨decodeWord_encode .msub, fun s hl => ?_⟩
  obtain ⟨t, he, hv, hframe, hclean⟩ := exec_writes_residue hl (modSub_lt hl _ _) (exec_msub s)
  refine ⟨t, he, hv, ?_, hframe, hclean⟩
  rw [hv]
  exact modSub_intCast (red_lt hl s.lb) (operandA s)

/-- Settles O9. -/
theorem mmulMultiplies : Obligations.MmulMultiplies :=
  ⟨decodeWord_encode .mmul, fun s hl => exec_writes_residue hl (modMul_lt hl _ _) (exec_mmul s)⟩

/-- Settles O12: the two cases of the operand under FULL, and the refusal under REDUCED. -/
theorem minvInverts : Obligations.MinvInverts := by
  refine ⟨decodeWord_encode .minv, fun s hl => ⟨fun hfull hz => ?_, fun hfull hnz => ?_, fun hred => ?_⟩⟩
  · exact exec_raises (exec_minv_of_zero hfull hz)
  · exact exec_writes_residue hl (modInv_lt hl _) (exec_minv_of_ne_zero hfull hnz)
  · exact exec_raises (exec_of_reduced hred rfl)

/-- Settles O13: the two cases of the divisor under FULL, and the refusal under REDUCED. -/
theorem mdivDivides : Obligations.MdivDivides := by
  refine ⟨decodeWord_encode .mdiv, fun s hl => ⟨fun hfull hz => ?_, fun hfull hnz => ?_, fun hred => ?_⟩⟩
  · exact exec_raises (exec_mdiv_of_zero hfull hz)
  · exact exec_writes_residue hl (modMul_lt hl _ _) (exec_mdiv_of_ne_zero hfull hnz)
  · exact exec_raises (exec_of_reduced hred rfl)

/-- Settles O14: a residue is congruent to its raw operand, so each unit's answer is the exact one's residue. -/
theorem resultsAreExactResidues : Obligations.ResultsAreExactResidues := by
  intro s hl
  refine ⟨?_, ?_, ?_, fun hfull hnz => ?_, fun hfull hnz => ?_⟩
  · obtain ⟨t, he, hv, -⟩ := exec_writes_residue hl (modAdd_lt hl _ _) (exec_madd s)
    exact ⟨t, he, hv.trans (modAdd_red _ _ _)⟩
  · obtain ⟨t, he, hv, -⟩ := exec_writes_residue hl (modSub_lt hl _ _) (exec_msub s)
    refine ⟨t, he, ?_⟩
    rw [hv]
    exact modSub_red_intCast hl s.la s.lb
  · obtain ⟨t, he, hv, -⟩ := exec_writes_residue hl (modMul_lt hl _ _) (exec_mmul s)
    exact ⟨t, he, hv.trans (modMul_red _ _ _)⟩
  · obtain ⟨t, he, hv, -⟩ := exec_writes_residue hl (modInv_lt hl _) (exec_minv_of_ne_zero hfull hnz)
    refine ⟨t, he, hv ▸ modInv_lt hl _, ?_⟩
    rw [hv, ← Nat.mod_mul_mod]
    exact modMul_modInv hl (Nat.pos_of_ne_zero hnz) (red_lt hl _)
  · obtain ⟨t, he, hv, -⟩ := exec_writes_residue hl (modMul_lt hl _ _) (exec_mdiv_of_ne_zero hfull hnz)
    refine ⟨t, he, hv ▸ modMul_lt hl _ _, ?_⟩
    rw [hv]
    calc modMul s.cfg (operandA s) (modInv s.cfg (operandB s)) * s.lb.toNat
        ≡ modMul s.cfg (operandA s) (modInv s.cfg (operandB s)) * operandB s [MOD s.cfg.mod] :=
          (red_modEq s.cfg s.lb).symm.mul_left _
      _ ≡ operandA s [MOD s.cfg.mod] := modMul_modInv_mul_modEq hl (Nat.pos_of_ne_zero hnz) (red_lt hl _) _
      _ ≡ s.la.toNat [MOD s.cfg.mod] := red_modEq s.cfg s.la

theorem resultAfter_of_exec {i : Instr} {s t : State} {a b : Word} (h : exec i { s with la := a, lb := b } = .next t) :
    resultAfter i s a b = some t.result := by
  rw [resultAfter, h]

theorem resultAfter_mred (s : State) (a b : Word) : resultAfter .mred s a b = some (zext64 (red s.cfg a)) :=
  resultAfter_of_exec (exec_mred _)

theorem resultAfter_madd (s : State) (a b : Word) :
    resultAfter .madd s a b = some (zext64 (modAdd s.cfg (red s.cfg a) (red s.cfg b))) :=
  resultAfter_of_exec (exec_madd _)

theorem resultAfter_msub (s : State) (a b : Word) :
    resultAfter .msub s a b = some (zext64 (modSub s.cfg (red s.cfg a) (red s.cfg b))) :=
  resultAfter_of_exec (exec_msub _)

theorem resultAfter_mmul (s : State) (a b : Word) :
    resultAfter .mmul s a b = some (zext64 (modMul s.cfg (red s.cfg a) (red s.cfg b))) :=
  resultAfter_of_exec (exec_mmul _)

theorem resultAfter_minv {s : State} (hfull : s.cfg.variant = .full) {a : Word} (b : Word) (h : red s.cfg a ≠ 0) :
    resultAfter .minv s a b = some (zext64 (modInv s.cfg (red s.cfg a))) :=
  resultAfter_of_exec (exec_minv_of_ne_zero (s := { s with la := a, lb := b }) hfull h)

theorem resultAfter_mdiv {s : State} (hfull : s.cfg.variant = .full) (a : Word) {b : Word} (h : red s.cfg b ≠ 0) :
    resultAfter .mdiv s a b = some (zext64 (modMul s.cfg (red s.cfg a) (modInv s.cfg (red s.cfg b)))) :=
  resultAfter_of_exec (exec_mdiv_of_ne_zero (s := { s with la := a, lb := b }) hfull h)

/-- Settles O15: each result is a residue, which an operand passes on unchanged, so each law is one of the units'. -/
theorem arithmeticLaws : Obligations.ArithmeticLaws := by
  intro s a b r hl hfull
  have ha := red_lt hl a
  have hb := red_lt hl b
  refine ⟨fun hr => ?_, fun hr => ?_, ?_, ?_, ?_, fun (hnz : red s.cfg b ≠ 0) hr => ?_,
    fun (hnz : red s.cfg a ≠ 0) hr => ?_, fun (hnz : red s.cfg b ≠ 0) hr => ?_⟩
  · rw [resultAfter_mred] at hr
    cases hr
    rw [resultAfter_mred, red_zext64 hl ha]
  · rw [resultAfter_madd] at hr
    cases hr
    rw [resultAfter_msub, resultAfter_mred, red_zext64 hl (modAdd_lt hl _ _), modSub_modAdd ha hb]
  · rw [resultAfter_madd, resultAfter_madd, modAdd_comm]
  · rw [resultAfter_mmul, resultAfter_mmul, modMul_comm]
  · rw [resultAfter_msub, modSub_self ha]
    rfl
  · rw [resultAfter_mmul] at hr
    cases hr
    rw [resultAfter_mdiv hfull _ hnz, resultAfter_mred, red_zext64 hl (modMul_lt hl _ _),
      modMul_modMul_modInv hl ha (Nat.pos_of_ne_zero hnz) hb]
  · rw [resultAfter_minv hfull b hnz] at hr
    cases hr
    rw [resultAfter_mmul, red_zext64 hl (modInv_lt hl _), modMul_modInv hl (Nat.pos_of_ne_zero hnz) ha]
    rfl
  · rw [resultAfter_minv hfull a hnz] at hr
    cases hr
    rw [resultAfter_mdiv hfull a hnz, resultAfter_mmul, red_zext64 hl (modInv_lt hl _)]

end Sys2Proof
end

section
/-! Growth of the power table (R133): how long it gets, what each new entry is, and the one entry that a push adds. -/

namespace Sys2Proof

open Sys2Proof.Machine

/-- Below PLEN a read of the table draws nothing (R28). -/
theorem tableEntry_eq_getD (d : Nat) {pt : List Word} {k : Nat} (hk : k < pt.length) :
    tableEntry d pt k = pt.getD k 0#64 := by
  rw [tableEntry, List.getD_eq_getElem _ _ hk, List.getD_eq_getElem _ _ hk]

/-- The loop of `grow()` seen from its last run (R133). -/
theorem growTable_succ (c : Config) (d n : Nat) (pt : List Word) :
    growTable c d (n + 1) pt = growTable c d n pt ++
      [zext64 ((tableEntry d (growTable c d n pt) ((growTable c d n pt).length - 1)).toNat * c.base % c.mod)] := by
  induction n generalizing pt with
  | zero => rfl
  | succ n ih => exact ih _

/-- Each new entry is the one before it times BASE (R133). -/
theorem growTable_getElem? (c : Config) (d n : Nat) {pt : List Word} {k : Nat} (hpos : 1 ≤ pt.length)
    (hk : pt.length ≤ k) (hlt : k < (growTable c d n pt).length) :
    (growTable c d n pt)[k]? = some (zext64 (((growTable c d n pt).getD (k - 1) 0#64).toNat * c.base % c.mod)) := by
  induction n with
  | zero => exact absurd hlt hk.not_gt
  | succ n ih =>
    have hlen := growTable_length c d n pt
    rw [growTable_length] at hlt
    rw [growTable_succ, List.getD_append _ _ _ _ (by omega)]
    by_cases hold : k < (growTable c d n pt).length
    · rw [List.getElem?_append_left hold, ih hold]
    · obtain rfl : k = (growTable c d n pt).length := by omega
      rw [List.getElem?_concat_length, tableEntry_eq_getD _ (by omega)]

theorem growTable_one (c : Config) (d : Nat) {pt : List Word} (hpos : 1 ≤ pt.length) :
    growTable c d 1 pt = pt ++ [zext64 ((pt.getLastD 0#64).toNat * c.base % c.mod)] := by
  have hlast : tableEntry d pt (pt.length - 1) = pt.getLastD 0#64 := by
    rw [tableEntry_eq_getD d (by omega), List.getD_eq_getElem?_getD, List.getLastD_eq_getLast?,
      List.getLast?_eq_getElem?]
  rw [growTable, growTable, hlast]

theorem State.grow_of_rom {s : State} (h : s.cfg.ptMode = .rom) : s.grow = s := by
  rw [State.grow, h]

theorem State.grow_pt_of_grown {s : State} (h : s.cfg.ptMode = .grown) :
    s.grow.pt = growTable s.cfg s.draws (s.window.length + 1 - s.pt.length) s.pt := by
  rw [State.grow_pt, h]

/-- R133: a table one entry short after the push gets that entry. -/
theorem State.grow_pt_eq_tableAfterPush {s : State} (hpos : 1 ≤ s.pt.length) (hge : s.window.length ≤ s.pt.length) :
    s.grow.pt = tableAfterPush s.cfg s.window.length s.pt := by
  cases hm : s.cfg.ptMode with
  | rom => rw [State.grow_of_rom hm, tableAfterPush, if_neg (by simp [hm])]
  | grown =>
    rw [State.grow_pt_of_grown hm, tableAfterPush]
    by_cases hshort : s.pt.length < s.window.length + 1
    · rw [if_pos ⟨hm, hshort⟩, show s.window.length + 1 - s.pt.length = 1 by omega, growTable_one _ _ hpos]
    · rw [if_neg (by simp [hshort]), show s.window.length + 1 - s.pt.length = 0 by omega, growTable]

/-- Settles O17: `grow()` runs its loop for the missing entries only, and a removal's frame leaves the table out. -/
theorem growExtendsTheTable : Obligations.GrowExtendsTheTable := by
  refine ⟨fun s => State.grow_of_rom, fun s hgrown hpos => ?_, ?_⟩
  · have hlen : s.grow.pt.length = max s.pt.length (s.window.length + 1) := by
      rw [State.grow_pt_of_grown hgrown, growTable_length]
      omega
    refine ⟨s.grow_frame, s.grow_pt_prefix, hlen, fun k hk hlt => ?_, by omega, by omega⟩
    rw [State.grow_pt_of_grown hgrown] at hlt ⊢
    exact growTable_getElem? _ _ _ hpos hk hlt
  · rintro i s t (rfl | rfl) he
    · exact (commandFrames _ _ _ he).1.pt_eq
    · exact (commandFrames _ _ _ he).1.pt_eq

end Sys2Proof
end

section
/-! How the window commands can complete (R131), and that they keep the block invariant (R132). -/

namespace Sys2Proof

open Sys2Proof.Machine

/-- The empty window has nothing to remove (R131). -/
theorem removalBody_of_nil {i : Instr} {s : State} (hi : i = .remf ∨ i = .remb) (hw : s.window = []) :
    commandBody i s = s.finish := by
  rcases hi with rfl | rfl
  · exact remfBody_of_nil hw
  · exact rembBody_of_nil hw

/-- Where REDUCED refuses REMB the core stays as it is too. -/
theorem removal_of_nil {i : Instr} {s t : State} (hi : i = .remf ∨ i = .remb) (hw : s.window = [])
    (he : exec i s = .next t) : SameButStatus s t := by
  rcases exec_cases he with ⟨-, rfl⟩ | ⟨-, rfl⟩
  · rw [removalBody_of_nil hi hw]
    rfl
  · rfl

theorem removal_of_nil_wellFormed {i : Instr} {s : State} (hi : i = .remf ∨ i = .remb) (hw : s.window = [])
    (hwf : i.WellFormed s.cfg s.la) : ∃ t, exec i s = .next t ∧ SameButStatus s t ∧ CompletedClean s t := by
  refine ⟨s.finish, ?_, rfl, rfl⟩
  rw [exec_of_wellFormed hwf, removalBody_of_nil hi hw]

theorem wellFormed_remf (c : Config) (la : Word) : Instr.WellFormed c la .remf :=
  wellFormed_of_inReduced rfl (by simp) c la

theorem wellFormed_remb {c : Config} (h : c.variant = .full) (la : Word) : Instr.WellFormed c la .remb :=
  wellFormed_of_full h (by simp) (by simp) la

/-- R131's fault list of the removals. -/
theorem removal_outcome {i : Instr} {s t : State} (hi : i = .remf ∨ i = .remb) (he : exec i s = .next t) :
    CompletedClean s t ∨ FaultedWith .ill s t := by
  rcases hi with rfl | rfl
  · exact .inl (commandFrames _ _ _ he).2
  · exact (commandFrames _ _ _ he).2

/-- R131's fault list of the pushes. -/
theorem push_outcome {i : Instr} {s t : State} (hi : i = .appb ∨ i = .appf) (he : exec i s = .next t) :
    CompletedClean s t ∨ FaultedWith .ill s t ∨ FaultedWith .ovf s t := by
  rcases hi with rfl | rfl
  · exact (commandFrames _ _ _ he).2
  · exact (commandFrames _ _ _ he).2

/-- A window command that does not complete clean changes no more than STATUS (R132, R171). -/
theorem windowCommand_of_not_clean {i : Instr} {s t : State} (hi : i = .appb ∨ i = .remf ∨ i = .remb ∨ i = .appf)
    (he : exec i s = .next t) (hfault : ¬ CompletedClean s t) : SameButStatus s t := by
  have hremoval (hr : i = .remf ∨ i = .remb) : SameButStatus s t := ((removal_outcome hr he).resolve_left hfault).1
  have hpush (hp : i = .appb ∨ i = .appf) : SameButStatus s t :=
    ((push_outcome hp he).resolve_left hfault).elim And.left And.left
  rcases hi with h | h | h | h
  · exact hpush (.inl h)
  · exact hremoval (.inl h)
  · exact hremoval (.inr h)
  · exact hpush (.inr h)

/-- Settles O16: a legal removal finds nothing in the empty window, and the faults are those of the commands' frames. -/
theorem emptyRemovalsAreNoOps : Obligations.EmptyRemovalsAreNoOps :=
  ⟨fun s hw => removal_of_nil_wellFormed (.inl rfl) hw (wellFormed_remf s.cfg s.la),
    fun s hw hfull => removal_of_nil_wellFormed (.inr rfl) hw (wellFormed_remb hfull s.la),
    fun _ _ _ => removal_outcome, fun _ _ _ => push_outcome⟩

/-- Settles O22: every command keeps the block invariant, and a fault or a no-op keeps the core itself. -/
theorem windowCommandsPreserveTheHash : Obligations.WindowCommandsPreserveTheHash := by
  intro i s hi h
  obtain ⟨t, he⟩ := exec_next i s
  have ht := h.exec he
  refine ⟨t, he, ht.hash_eq, ht.table_eq, ht.table_ge, ht.table_le, ?_⟩
  rintro (hfault | ⟨hw, hr⟩)
  · exact windowCommand_of_not_clean hi he hfault
  · exact removal_of_nil hr hw he

end Sys2Proof
end

section
/-! What each window command answers: the hash, the window and the power table (R134 to R140). -/

namespace Sys2Proof

open Sys2Proof.Machine

/-- A push that is performed: the new hash and window, then `grow()` (R134, R140). -/
def pushed (v : Nat) (w : List Word) (s : State) : State := ((s.setHash v).setWindow w).grow.finish

/-- A removal that is performed: the new hash and window, over the same table (R136, R138). -/
def removed (v : Nat) (w : List Word) (s : State) : State := ((s.setHash v).setWindow w).finish

/-- The front weight read from the table is an entry the table has (R28). -/
theorem powerOf_eq_getD {s : State} {k : Nat} (hk : k < s.pt.length) : powerOf s k = (s.pt.getD k 0#64).toNat := by
  rw [powerOf, tableEntry_eq_getD _ hk]

/-- Both variants have APPB, so only its element is checked (R86, R88). -/
theorem wellFormed_appb_iff (c : Config) (la : Word) :
    Instr.WellFormed c la .appb ↔ elementInRange c la .appb = true := by
  have hadmits : variantAdmits c .appb = true := by
    unfold variantAdmits
    cases c.variant <;> rfl
  exact and_iff_right hadmits

/-- An element in range is the whole of LA (R82, R88). -/
theorem elementOf_of_inRange {i : Instr} (hi : i = .appb ∨ i = .appf) {c : Config} {la : Word}
    (h : elementInRange c la i = true) : elementOf c la = la :=
  (push_takes_whole hi ((elementInRange_of_push hi c la).symm.trans h)).2

theorem exec_appb_of_room {s : State} (hx : elementInRange s.cfg s.la .appb = true)
    (hroom : s.window.length < s.cfg.winCap) : exec .appb s =
      .next (pushed ((hashOf s * s.cfg.base + red s.cfg s.la) % s.cfg.mod) (s.window ++ [s.la]) s) := by
  rw [exec_of_wellFormed ((wellFormed_appb_iff _ _).2 hx), commandBody, appbBody_of_room hroom.ne,
    elementOf_of_inRange (.inl rfl) hx]
  rfl

theorem exec_appf_of_room {s : State} (hwf : Instr.WellFormed s.cfg s.la .appf)
    (hroom : s.window.length < s.cfg.winCap) : exec .appf s =
      .next (pushed (modAdd s.cfg (hashOf s) (modMul s.cfg (red s.cfg s.la) (powerOf s s.window.length)))
        (s.la :: s.window) s) := by
  rw [exec_of_wellFormed hwf, commandBody, appfBody_of_room hroom.ne, elementOf_of_inRange (.inr rfl) hwf.2]
  rfl

theorem exec_remf_of_cons {s : State} {x : Word} {w : List Word} (hw : s.window = x :: w) : exec .remf s =
    .next (removed (modSub s.cfg (hashOf s) (modMul s.cfg (red s.cfg x) (powerOf s w.length))) w s) := by
  rw [exec_of_wellFormed (wellFormed_remf _ _), commandBody, remfBody_of_cons hw]
  rfl

theorem exec_remb_of_append {s : State} {x : Word} {w : List Word} (hfull : s.cfg.variant = .full)
    (hw : s.window = w ++ [x]) : exec .remb s =
      .next (removed (modMul s.cfg (modSub s.cfg (hashOf s) (red s.cfg x)) (modInv s.cfg s.cfg.base)) w s) := by
  rw [exec_of_wellFormed (wellFormed_remb hfull _), commandBody, rembBody_of_append hw]
  rfl

/-- Both pushes fault on a full window (R176). -/
theorem exec_push_of_full {i : Instr} {s : State} (hi : i = .appb ∨ i = .appf) (hwf : i.WellFormed s.cfg s.la)
    (hcap : s.window.length = s.cfg.winCap) : exec i s = .next (s.fail .ovf) := by
  rw [exec_of_wellFormed hwf]
  rcases hi with rfl | rfl
  · rw [commandBody, appbBody_of_full hcap]
  · rw [commandBody, appfBody_of_full hcap]

/-- What a push of one element leaves, where the table covers the window before it (R133). -/
theorem exec_pushes {i : Instr} {s : State} {v : Nat} {w : List Word} (h : BlockInv s) (hv : v < s.cfg.mod)
    (hlen : w.length = s.window.length + 1) (he : exec i s = .next (pushed v w s)) :
    ∃ t, exec i s = .next t ∧ t.hash.toNat = v ∧ t.window = w ∧
      t.pt = tableAfterPush s.cfg (s.window.length + 1) s.pt ∧ SameButCore s t ∧ CompletedClean s t := by
  refine ⟨_, he, ?_, ?_, ?_, sameButCore_grow s v w⟩
  · rw [pushed, State.grow_frame]
    exact zext64_toNat (hv.trans (mod_lt_word h.legal))
  · rw [pushed, State.grow_frame]
    rfl
  · have hge := h.table_ge
    rw [← hlen]
    refine State.grow_pt_eq_tableAfterPush (s := (s.setHash v).setWindow w) ?_ ?_
    · exact (Nat.le_add_left 1 _).trans hge
    · exact hlen.trans_le hge

/-- What a removal of one element leaves. -/
theorem exec_removes {i : Instr} {s : State} {v : Nat} {w : List Word} (hl : s.cfg.Legal) (hv : v < s.cfg.mod)
    (he : exec i s = .next (removed v w s)) :
    ∃ t, exec i s = .next t ∧ t.hash.toNat = v ∧ t.window = w ∧ SameButWindow s t ∧ CompletedClean s t :=
  ⟨_, he, zext64_toNat (hv.trans (mod_lt_word hl)), rfl, rfl, rfl⟩

theorem BlockInv.hash_of_nil {s : State} (h : BlockInv s) (hw : s.window = []) : s.hash = 0#64 := by
  refine BitVec.eq_of_toNat_eq ?_
  rw [h.hash_eq, hw, windowHash_nil]
  rfl

/-- Settles O18: by the check of the element and the room in the window. -/
theorem appbAppendsAtBack : Obligations.AppbAppendsAtBack := by
  refine ⟨decodeWord_encode .appb, fun s h => ⟨fun hx hroom => ?_, fun hx hcap => ?_, fun hx => ?_⟩⟩
  · exact exec_pushes h (Nat.mod_lt _ (mod_pos h.legal)) List.length_append (exec_appb_of_room hx hroom)
  · exact exec_raises (exec_push_of_full (.inl rfl) ((wellFormed_appb_iff _ _).2 hx) hcap)
  · exact exec_raises (exec_of_not_wellFormed (by simp [hx]))

/-- Settles O21: by the legality of the command and the room in the window. -/
theorem appfAppendsAtFront : Obligations.AppfAppendsAtFront := by
  refine ⟨decodeWord_encode .appf, fun s h => ⟨fun hwf hroom => ?_, fun hwf hcap => ?_, fun hbad => ?_⟩⟩
  · rw [← powerOf_eq_getD h.table_ge]
    exact exec_pushes h (modAdd_lt h.legal _ _) List.length_cons (exec_appf_of_room hwf hroom)
  · exact exec_raises (exec_push_of_full (.inr rfl) hwf hcap)
  · exact exec_raises (exec_of_not_wellFormed hbad)

/-- Settles O19: the table covers the window, so the front's weight is an entry it has. -/
theorem remfRemovesFront : Obligations.RemfRemovesFront := by
  refine ⟨decodeWord_encode .remf, fun s h => ⟨emptyRemovalsAreNoOps.1 s, fun x w hw => ?_⟩⟩
  have hlen : s.window.length - 1 = w.length := by rw [hw, List.length_cons, Nat.add_sub_cancel]
  have hge := h.table_ge
  rw [hlen, ← powerOf_eq_getD (by omega)]
  exact exec_removes h.legal (modSub_lt h.legal _ _) (exec_remf_of_cons hw)

/-- Settles O20: an empty and a nonempty window under FULL, and the refusal under REDUCED. -/
theorem rembRemovesBack : Obligations.RembRemovesBack := by
  refine ⟨decodeWord_encode .remb, fun s hl => ⟨fun hfull hw => emptyRemovalsAreNoOps.2.1 s hw hfull,
    fun w x hfull hw => ?_, fun hred => exec_raises (exec_of_reduced hred rfl)⟩⟩
  obtain ⟨t, he, hhash, hwin, hframe, hclean⟩ := exec_removes hl (modMul_lt hl _ _) (exec_remb_of_append hfull hw)
  exact ⟨t, he, hhash, hwin, hframe, hclean, fun hnil h => (h.exec he).hash_of_nil (hwin.trans hnil)⟩

end Sys2Proof
end

section
/-! The derived laws of the window commands (R142 to R144): the hash is a function of the window, so a law about
the hash is one about the windows the commands leave. -/

namespace Sys2Proof

open Sys2Proof.Machine

theorem SameButStatus.window_eq {s t : State} (h : SameButStatus s t) : t.window = s.window := by
  rw [h]

theorem SameButCore.cfg_eq {s t : State} (h : SameButCore s t) : t.cfg = s.cfg := by
  rw [h]

theorem SameButWindow.sameButCore {s t : State} (h : SameButWindow s t) : SameButCore s t := by
  rw [SameButCore, h.pt_eq]
  exact h

theorem SameButCore.trans {s t u : State} (hst : SameButCore s t) (htu : SameButCore t u) : SameButCore s u := by
  rw [SameButCore] at htu ⊢
  rw [hst] at htu
  exact htu

theorem CompletedClean.trans {s t u : State} (hst : CompletedClean s t) (htu : CompletedClean t u) :
    CompletedClean s u := by
  rw [CompletedClean, htu, hst]
  rfl

theorem exec_cfg {i : Instr} {s t : State} (h : exec i s = .next t) : t.cfg = s.cfg := by
  rw [exec_frame h]

theorem exec_pt_prefix {i : Instr} {s t : State} (hi : i ≠ .clear) (h : exec i s = .next t) : s.pt <+: t.pt := by
  rcases exec_cases h with ⟨-, rfl⟩ | ⟨-, rfl⟩
  · exact commandBody_pt_prefix hi s
  · exact List.prefix_refl _

/-- HASH depends on the window alone (R143). -/
theorem BlockInv.hash_congr {s s' : State} (h : BlockInv s) (h' : BlockInv s') (hcfg : s.cfg = s'.cfg)
    (hwin : s.window = s'.window) : s.hash = s'.hash := by
  refine BitVec.eq_of_toNat_eq ?_
  rw [h.hash_eq, h'.hash_eq, hcfg, hwin]

/-- A clean push, then a clean removal that leaves the window as it was (R142). -/
theorem push_undone {i j : Instr} {s t u : State} (h : BlockInv s) (hi : i ≠ .clear) (he : exec i s = .next t)
    (hu : exec j t = .next u) (hwin : u.window = s.window) (hst : SameButCore s t) (htu : SameButWindow t u)
    (hcleanT : CompletedClean s t) (hcleanU : CompletedClean t u) :
    ∃ t u, exec i s = .next t ∧ exec j t = .next u ∧ u.hash = s.hash ∧ u.window = s.window ∧ s.pt <+: u.pt ∧
      SameButCore s u ∧ CompletedClean s u := by
  have hframe := hst.trans htu.sameButCore
  refine ⟨t, u, he, hu, ((h.exec he).exec hu).hash_congr h hframe.cfg_eq hwin, hwin, ?_, hframe, hcleanT.trans hcleanU⟩
  rw [htu.pt_eq]
  exact exec_pt_prefix hi he

/-- Settles O23: the pushed element is the one at the end that the removal takes. -/
theorem pushThenPopRestores : Obligations.PushThenPopRestores := by
  intro s h hroom hfull hx
  constructor
  · obtain ⟨t, he, -, hwin, -, hst, hcleanT⟩ := (appbAppendsAtBack.2 s h).1 hx hroom
    have hfullT : t.cfg.variant = .full := hst.cfg_eq ▸ hfull
    obtain ⟨u, hu, -, hback, htu, hcleanU, -⟩ := (rembRemovesBack.2 t (h.exec he).legal).2.1 _ _ hfullT hwin
    exact push_undone h (by simp) he hu hback hst htu hcleanT hcleanU
  · have hwf : Instr.WellFormed s.cfg s.la .appf := ⟨by rw [variantAdmits, hfull], hx⟩
    obtain ⟨t, he, -, hwin, -, hst, hcleanT⟩ := (appfAppendsAtFront.2 s h).1 hwf hroom
    obtain ⟨u, hu, -, hback, htu, hcleanU⟩ := (remfRemovesFront.2 t (h.exec he)).2 _ _ hwin
    exact push_undone h (by simp) he hu hback hst htu hcleanT hcleanU

/-- Settles O25: the window stays or becomes empty, whose hash is 0. -/
theorem emptyWindowLaws : Obligations.EmptyWindowLaws := by
  intro s h hw
  have hremoval (i : Instr) (hi : i = .remf ∨ i = .remb) : ∃ t, exec i s = .next t ∧ t.hash = 0#64 ∧ t.window = [] := by
    obtain ⟨t, he⟩ := exec_next i s
    have hnil : t.window = [] := (removal_of_nil hi hw he).window_eq.trans hw
    exact ⟨t, he, (h.exec he).hash_of_nil hnil, hnil⟩
  refine ⟨hremoval .remf (.inl rfl), hremoval .remb (.inr rfl), fun hx => ?_⟩
  obtain ⟨-, -, -, -, -, -, hcap⟩ := h.legal
  obtain ⟨t, he, -, hone, -⟩ := (appbAppendsAtBack.2 s h).1 hx (by simp [hw]; omega)
  have ht := h.exec he
  obtain ⟨u, hu, -, hnil, -⟩ := (remfRemovesFront.2 t ht).2 s.la [] (by rw [hone, hw]; rfl)
  exact ⟨t, u, he, hu, (ht.exec hu).hash_of_nil hnil, hnil⟩

theorem afterCommand_of_exec {i : Instr} {a : Word} {s t : State} (h : exec i { s with la := a } = .next t) :
    afterCommand i a s = t := by
  rw [afterCommand, h]

theorem exec_afterCommand (i : Instr) (a : Word) (s : State) :
    exec i { s with la := a } = .next (afterCommand i a s) := by
  obtain ⟨t, he⟩ := exec_next i { s with la := a }
  rw [he, afterCommand_of_exec he]

/-- A state with parameters `c` and window `w` that meets the block invariant. -/
structure HoldsWindow (c : Config) (w : List Word) (s : State) : Prop where
  inv : BlockInv s
  cfg : s.cfg = c
  window : s.window = w

/-- So two commands' results are compared by their windows. -/
theorem HoldsWindow.hash_window_eq {c : Config} {w : List Word} {s s' : State} (h : HoldsWindow c w s)
    (h' : HoldsWindow c w s') : s.hash = s'.hash ∧ s.window = s'.window := by
  have hwin := h.window.trans h'.window.symm
  exact ⟨h.inv.hash_congr h'.inv (h.cfg.trans h'.cfg.symm) hwin, hwin⟩

/-- The latches are no part of the invariant. -/
theorem BlockInv.withLa {s : State} (h : BlockInv s) (a : Word) : BlockInv { s with la := a } :=
  h.of_core_eq rfl rfl rfl rfl rfl

/-- After a command only the window has to be known: no command changes the parameters or breaks the invariant. -/
theorem HoldsWindow.afterCommand {c : Config} {w w' : List Word} {s : State} {i : Instr} {a : Word}
    (h : HoldsWindow c w s) (hwin : (afterCommand i a s).window = w') : HoldsWindow c w' (afterCommand i a s) :=
  ⟨(h.inv.withLa a).exec (exec_afterCommand i a s), (exec_cfg (exec_afterCommand i a s)).trans h.cfg, hwin⟩

theorem HoldsWindow.clear {c : Config} {w : List Word} {s : State} (h : HoldsWindow c w s) (a : Word) :
    HoldsWindow c [] (Sys2Proof.afterCommand .clear a s) := by
  have he := exec_of_wellFormed (s := { s with la := a }) (wellFormed_of_inReduced (i := .clear) rfl (by simp) s.cfg a)
  refine h.afterCommand ?_
  rw [afterCommand_of_exec he]
  rfl

theorem HoldsWindow.appb {c : Config} {w : List Word} {x : Word} {s : State} (h : HoldsWindow c w s)
    (hx : elementInRange c x .appb = true) (hroom : w.length < c.winCap) :
    HoldsWindow c (w ++ [x]) (Sys2Proof.afterCommand .appb x s) := by
  obtain ⟨inv, rfl, rfl⟩ := id h
  obtain ⟨t, he, -, hwin, -⟩ := (appbAppendsAtBack.2 _ (inv.withLa x)).1 hx hroom
  refine h.afterCommand ?_
  rw [afterCommand_of_exec he, hwin]

theorem HoldsWindow.remf {c : Config} {w : List Word} {x : Word} {s : State} (h : HoldsWindow c (x :: w) s) (a : Word) :
    HoldsWindow c w (Sys2Proof.afterCommand .remf a s) := by
  obtain ⟨t, he, -, hwin, -⟩ := (remfRemovesFront.2 _ (h.inv.withLa a)).2 x w h.window
  refine h.afterCommand ?_
  rw [afterCommand_of_exec he, hwin]

/-- A sequence of `appb`s whose elements are in range and fit appends them all. -/
theorem HoldsWindow.appendAll {c : Config} {w xs : List Word} {s : State} (h : HoldsWindow c w s)
    (hx : ∀ x ∈ xs, elementInRange c x .appb = true) (hroom : (w ++ xs).length ≤ c.winCap) :
    HoldsWindow c (w ++ xs) (appendAll xs s) := by
  induction xs generalizing w s with
  | nil => rwa [List.append_nil]
  | cons x xs ih =>
    have hstep := h.appb (hx x List.mem_cons_self) (by simp at hroom; omega)
    rw [List.append_cons] at hroom ⊢
    exact ih hstep (fun y hy => hx y (List.mem_cons_of_mem x hy)) hroom

/-- `init` leaves the window it names (R93). -/
theorem holdsWindow_initAll {s : State} {xs : List Word} (h : BlockInv s)
    (hx : ∀ x ∈ xs, elementInRange s.cfg x .appb = true) (hroom : xs.length ≤ s.cfg.winCap) :
    HoldsWindow s.cfg xs (initAll xs s) :=
  ((HoldsWindow.mk h rfl rfl).clear 0#64).appendAll hx hroom

/-- `slide` shifts the window by one element (R94). -/
theorem HoldsWindow.slideTo {c : Config} {w : List Word} {x y : Word} {s : State} (h : HoldsWindow c (x :: w) s)
    (hy : elementInRange c y .appb = true) : HoldsWindow c (w ++ [y]) (slideTo y s) := by
  have hroom : w.length < c.winCap := by
    obtain ⟨inv, rfl, hwin⟩ := h
    simpa [hwin] using inv.window_le
  exact (h.remf 0#64).appb hy hroom

/-- Settles O24: the two sides of each law hold the same window, and so have the same hash. -/
theorem incrementalEqualsBatch : Obligations.IncrementalEqualsBatch := by
  intro s s' S h h' hcfg hlen hS
  have hinit {xs : List Word} (hx : ∀ x ∈ xs, elementInRange s.cfg x .appb = true) (hroom : xs.length ≤ s.cfg.winCap) :
      HoldsWindow s.cfg xs (initAll xs s) ∧ HoldsWindow s.cfg xs (initAll xs s') := by
    refine ⟨holdsWindow_initAll h hx hroom, ?_⟩
    rw [hcfg] at hx hroom ⊢
    exact holdsWindow_initAll h' hx hroom
  obtain ⟨hwhole, hwhole'⟩ := hinit hS hlen
  refine ⟨hwhole.window, (hwhole.hash_window_eq hwhole').1, fun k => ?_, fun x w y hSxw hy => ?_, h.hash_congr h' hcfg⟩
  · have htake := (hinit (xs := S.take k) (fun x hx => hS x (List.mem_of_mem_take hx))
      ((List.length_take_le' k S).trans hlen)).1
    have hsplit := htake.appendAll (xs := S.drop k) (fun x hx => hS x (List.mem_of_mem_drop hx))
      (by rwa [List.take_append_drop])
    rw [List.take_append_drop] at hsplit
    exact hsplit.hash_window_eq hwhole'
  · subst hSxw
    have hshifted := (hinit (xs := w ++ [y])
      (List.forall_mem_append.2 ⟨fun z hz => hS z (List.mem_cons_of_mem x hz), List.forall_mem_singleton.2 hy⟩)
      (by simpa using hlen)).2
    exact (hwhole.slideTo hy).hash_window_eq hshifted

end Sys2Proof
end

section
/-! What the control commands NOP and CLEAR answer (R160 to R163). -/

namespace Sys2Proof

open Sys2Proof.Machine

theorem exec_nop (s : State) : exec .nop s = .next s.finish :=
  exec_of_wellFormed (wellFormed_of_inReduced rfl (by simp) _ _)

theorem exec_clear (s : State) : exec .clear s = .next (clearBody s) :=
  exec_of_wellFormed (wellFormed_of_inReduced rfl (by simp) _ _)

/-- Settles O26: NOP has no check to fail, and the word's faults do not depend on its opcode. -/
theorem nopChangesNothing : Obligations.NopChangesNothing :=
  ⟨decodeWord_encode .nop, fun s => ⟨s.finish, exec_nop s, rfl, rfl⟩, fun s _ hres => reservedBitsRaiseIll s hres,
    fun _ hbusy => writeCmd_of_busy hbusy 0#64⟩

theorem clearedTable_of_rom {s : State} (h : s.cfg.ptMode = .rom) : clearedTable s = s.pt := by
  rw [clearedTable, h]

/-- Settles O27: CLEAR has no check to fail, and the table it leaves is `clearedTable`. -/
theorem clearEmptiesTheWindow : Obligations.ClearEmptiesTheWindow := by
  refine ⟨decodeWord_encode .clear, fun s => ⟨clearBody s, exec_clear s, rfl, rfl, ?grown, ?rom, rfl, rfl⟩⟩
  case grown => exact clearedTable_of_grown
  case rom => exact clearedTable_of_rom

/-- In ROM mode the table never leaves its reset contents (R27, R28). -/
theorem BlockInv.pt_of_rom {s : State} (h : BlockInv s) (hrom : s.cfg.ptMode = .rom) : s.pt = resetTable s.cfg := by
  obtain ⟨hpowers, -, -, hlen⟩ := h.tableInv
  rw [resetTable_eq_powerTable h.legal, if_pos hrom, ← hlen hrom]
  exact hpowers

theorem clearedTable_eq_resetTable {s : State} (h : BlockInv s) : clearedTable s = resetTable s.cfg := by
  cases hm : s.cfg.ptMode with
  | grown => rw [clearedTable_of_grown hm, resetTable_of_grown hm]
  | rom => rw [clearedTable_of_rom hm, h.pt_of_rom hm]

/-- Settles O28: under the block invariant the table CLEAR leaves is the table of a new instance. -/
theorem clearRestoresTheResetCore : Obligations.ClearRestoresTheResetCore := fun s h =>
  ⟨clearBody s, exec_clear s, rfl, rfl, clearedTable_eq_resetTable h, rfl, rfl, rfl, rfl,
    fun f => Status.setBusy_get false f s.status⟩

end Sys2Proof
end

section
/-! Raising a fault bit commutes with completing, with every command and with accepting one: none of them looks at the fault
bits (R178). -/

namespace Sys2Proof.Machine

theorem Status.set_setBusy (f : FaultBit) (b : Bool) (st : Status) : (st.setBusy b).set f = (st.set f).setBusy b := by
  cases f <;> rfl

theorem Status.set_comm (f g : FaultBit) (st : Status) : (st.set f).set g = (st.set g).set f := by
  cases f <;> cases g <;> rfl

/-- Completing and raising a fault touch different bits. -/
theorem raise_finish (f : FaultBit) (s : State) : s.finish.raise f = (s.raise f).finish := by
  rw [State.raise, State.finish_status, Status.set_setBusy]
  rfl

theorem raise_fail (f g : FaultBit) (s : State) : (s.fail g).raise f = (s.raise f).fail g := by
  rw [State.fail, raise_finish, State.raise, State.raise_status, Status.set_comm]
  rfl

/-- A body with a guard that faults, neither of which looks at STATUS. -/
theorem raise_guarded {p : Prop} [Decidable p] {f g : FaultBit} {s t t' : State} (ht : t.raise f = t') :
    (if p then s.fail g else t).raise f = if p then (s.raise f).fail g else t' := by
  split
  · exact raise_fail f g s
  · exact ht

theorem raise_grow_finish (f : FaultBit) (s : State) : s.grow.finish.raise f = (s.raise f).grow.finish := by
  rw [raise_finish, State.grow_frame, State.grow_frame (s.raise f), State.grow_pt, State.grow_pt]
  rfl

theorem raise_remfBody (f : FaultBit) (s : State) : (remfBody s).raise f = remfBody (s.raise f) := by
  cases hw : s.window with
  | nil => rw [remfBody_of_nil hw, remfBody_of_nil (s := s.raise f) hw, raise_finish]
  | cons x w =>
    rw [remfBody_of_cons hw, remfBody_of_cons (s := s.raise f) hw, raise_finish]
    rfl

theorem raise_rembBody (f : FaultBit) (s : State) : (rembBody s).raise f = rembBody (s.raise f) := by
  rcases List.eq_nil_or_concat' s.window with hw | ⟨w, x, hw⟩
  · rw [rembBody_of_nil hw, rembBody_of_nil (s := s.raise f) hw, raise_finish]
  · rw [rembBody_of_append hw, rembBody_of_append (s := s.raise f) hw, raise_finish]
    rfl

/-- No command looks at the fault bits (R178). -/
theorem raise_commandBody (f : FaultBit) (i : Instr) (s : State) :
    (commandBody i s).raise f = commandBody i (s.raise f) := by
  cases i with
  | mdiv | minv => exact raise_guarded (raise_finish f _)
  | appb | appf => exact raise_guarded (raise_grow_finish f _)
  | remf => exact raise_remfBody f s
  | remb => exact raise_rembBody f s
  | nop | mred | madd | msub | mmul | clear => exact raise_finish f _

theorem exec_raise {i : Instr} {s t : State} (f : FaultBit) (he : exec i s = .next t) :
    exec i (s.raise f) = .next (t.raise f) := by
  rcases exec_cases he with ⟨hwf, rfl⟩ | ⟨hbad, rfl⟩
  · rw [exec_of_wellFormed (s := s.raise f) hwf, raise_commandBody]
  · rw [exec_of_not_wellFormed (s := s.raise f) hbad, raise_fail]

/-- Acceptance sets BUSY and leaves the fault bits to themselves (R62, R178). -/
theorem accept_raise (v : Word) (f : FaultBit) (s : State) : (s.raise f).accept v = (s.accept v).raise f := by
  rw [State.accept, State.raise_status, ← Status.set_setBusy]
  rfl

end Sys2Proof.Machine
end

section
/-! The faults (60_exceptions.md): how a completion ends and what it raises (R171, R175, R176, R180), and that a fault bit
stays set and changes nothing else (R178). -/

namespace Sys2Proof

open Sys2Proof.Machine

theorem CompletedClean.busy {s t : State} (h : CompletedClean s t) : t.status.busy = false := by
  rw [h, Status.setBusy_busy]

theorem CompletedClean.get {s t : State} (h : CompletedClean s t) (f : FaultBit) : t.status.get f = s.status.get f := by
  rw [h, Status.setBusy_get]

theorem FaultedWith.busy {f : FaultBit} {s t : State} (h : FaultedWith f s t) : t.status.busy = false := by
  rw [h.2, Status.setBusy_busy]

theorem FaultedWith.get_of_ne {f g : FaultBit} {s t : State} (h : FaultedWith f s t) (hne : f ≠ g) :
    t.status.get g = s.status.get g := by
  rw [h.2, Status.setBusy_get, Status.get_set_of_ne f g _ hne]

theorem FaultedWith.get_of_get {f g : FaultBit} {s t : State} (h : FaultedWith f s t) (hg : s.status.get g = true) :
    t.status.get g = true := by
  rw [h.2, Status.setBusy_get, Status.get_set_of_get f g _ hg]

/-- How the completion of a command can end (R171): the fault lists of R39's table, put together. -/
theorem exec_outcome {i : Instr} {s t : State} (he : exec i s = .next t) :
    CompletedClean s t ∨ FaultedWith .ill s t ∨ FaultedWith .dz s t ∨ FaultedWith .ovf s t := by
  have hframe := commandFrames i s t he
  cases i with
  | mdiv | minv => exact hframe.2.imp_right (.imp_right .inl)
  | appb | appf => exact hframe.2.imp_right (.imp_right .inr)
  | remb => exact hframe.2.imp_right .inl
  | nop | mred | madd | msub | mmul | remf | clear => exact .inl hframe.2

/-- How a completion can end (R171): a word that does not decode is one more ILL. -/
theorem complete_outcome {s t : State} (h : complete s = .next t) :
    CompletedClean s t ∨ FaultedWith .ill s t ∨ FaultedWith .dz s t ∨ FaultedWith .ovf s t := by
  rcases complete_cases h with ⟨-, rfl⟩ | ⟨i, -, he⟩
  · exact .inr (.inl (faultedWith_fail .ill s))
  · exact exec_outcome he

/-- Every completion answers a next state (R201). -/
theorem complete_next (s : State) : ∃ t, complete s = .next t := by
  cases hdec : decode s.cfg s.lop s.la with
  | error e => exact ⟨_, complete_of_error hdec⟩
  | ok i =>
    rw [complete_of_ok hdec]
    exact exec_next i s

theorem complete_busy {s t : State} (h : complete s = .next t) : t.status.busy = false := by
  rcases complete_outcome h with hclean | hill | hdz | hovf
  · exact hclean.busy
  · exact hill.busy
  · exact hdz.busy
  · exact hovf.busy

/-- Settles O30: a completion raises ILL at the decoder or ends as its command does. -/
theorem faultingCommandsArePrecise : Obligations.FaultingCommandsArePrecise := by
  intro s
  obtain ⟨t, h⟩ := complete_next s
  exact ⟨t, h, complete_busy h, complete_outcome h⟩

/-- Settles O31: under FULL both commands get past the decoder's checks, and ILL is the only fault of REMB. -/
theorem zeroDivisorRaisesDz : Obligations.ZeroDivisorRaisesDz := by
  refine ⟨fun s hfull hz => exec_raises (exec_mdiv_of_zero hfull hz),
    fun s hfull hz => exec_raises (exec_minv_of_zero hfull hz), fun s t he => ?_⟩
  rcases removal_outcome (.inr rfl) he with hclean | hill
  · exact hclean.get .dz
  · exact hill.get_of_ne (g := .dz) (by simp)

/-- Settles O32: a legal push reaches its body, which finds no room. -/
theorem fullWindowRaisesOvf : Obligations.FullWindowRaisesOvf := fun _ _ hi hwf hcap =>
  exec_raises (exec_push_of_full hi hwf hcap)

/-- Settles O33: the element is checked before the body sees the full window. -/
theorem illWinsOverOvf : Obligations.IllWinsOverOvf := by
  intro i s _ hrange _ hovf
  have hbad : ¬ i.WellFormed s.cfg s.la := by
    rintro ⟨-, hin⟩
    simp [hrange] at hin
  exact ⟨s.fail .ill, exec_of_not_wellFormed hbad, rfl, hovf, rfl⟩

theorem complete_keeps_faultBit {s t : State} {f : FaultBit} (h : complete s = .next t) (hf : s.status.get f = true) :
    t.status.get f = true := by
  rcases complete_outcome h with hclean | hill | hdz | hovf
  · exact (hclean.get f).trans hf
  · exact hill.get_of_get hf
  · exact hdz.get_of_get hf
  · exact hovf.get_of_get hf

/-- A CMD write touches BUSY, or sets OVR (R62, R177). -/
theorem writeCmd_keeps_faultBit {s : State} {f : FaultBit} (v : Word) (hf : s.status.get f = true) :
    (writeCmd v s).status.get f = true := by
  cases hbusy : s.status.busy with
  | false =>
    rw [writeCmd_of_idle hbusy]
    exact (Status.setBusy_get true f s.status).trans hf
  | true =>
    rw [writeCmd_of_busy hbusy]
    exact Status.get_set_of_get .ovr f s.status hf

/-- A CMD write is the only write that reaches STATUS (R59, R60, R62). -/
theorem writeReg_keeps_faultBit {reg : Reg} {v : Word} {s t : State} {f : FaultBit} (h : writeReg reg v s = some t)
    (hf : s.status.get f = true) : t.status.get f = true := by
  cases reg with
  | cmd =>
    cases h
    exact writeCmd_keeps_faultBit v hf
  | opa | opb | widx =>
    cases h
    exact hf
  | result | hash | wlen | plen | status | modr | baser | capr | config | wdata => cases h

/-- What an access leaves: the same state, what a read leaves, or what a write leaves (R58 to R62). -/
theorem perform_cases (r : Request) (s : State) :
    (perform r s).1 = s ∨ (∃ reg, (perform r s).1 = (readReg reg s).1) ∨
      ∃ reg, writeReg reg r.wdata s = some (perform r s).1 := by
  unfold perform
  split
  · exact .inl rfl
  · split
    · exact .inl rfl
    · next reg _ =>
      split
      · split
        · exact .inl rfl
        · next hwrite => exact .inr (.inr ⟨reg, hwrite⟩)
      · exact .inr (.inl ⟨reg, rfl⟩)

theorem perform_keeps_faultBit {s : State} {f : FaultBit} (r : Request) (hf : s.status.get f = true) :
    (perform r s).1.status.get f = true := by
  rcases perform_cases r s with h | ⟨reg, h⟩ | ⟨reg, h⟩
  · rw [h]
    exact hf
  · rw [h, readReg_frame]
    exact hf
  · exact writeReg_keeps_faultBit h hf

/-- Of the moves of the bus only a transfer can reach STATUS. -/
theorem busMove_keeps_faultBit {s : State} {f : FaultBit} (hf : s.status.get f = true) :
    (busMove s).status.get f = true := by
  rcases busMove_cases s with ⟨rsp, -, -, h⟩ | ⟨rsp, -, -, h⟩ | ⟨op, -, -, -, h⟩ | ⟨-, -, h⟩
  · rw [h]
    exact hf
  · rw [h]
    exact hf
  · rw [h]
    exact perform_keeps_faultBit (s := s.tick) op.request hf
  · rw [h]
    exact hf

/-- Settles O34: completions and accesses only set fault bits; and every command and an accepted CMD write commute with
setting one. -/
theorem faultBitsAreSticky : Obligations.FaultBitsAreSticky := by
  refine ⟨fun s t f hstep hreset hf => ?_, fun i s t f he => exec_raise f he, fun v s f hidle => ?_⟩
  · rcases step_cases hstep with ⟨hr, -⟩ | ⟨-, -, -, hc⟩ | ⟨-, -, -, rfl⟩
    · simp [hreset] at hr
    · exact complete_keeps_faultBit hc hf
    · exact busMove_keeps_faultBit hf
  · have hidle' : (s.raise f).status.busy = false := (Status.set_busy f s.status).trans hidle
    rw [writeCmd_of_idle hidle, writeCmd_of_idle hidle', accept_raise]

end Sys2Proof
end

section
/-! Reset (70_reset_and_hazards.md section 1): what a reset edge leaves, and that one starts the machine (R190 to R193). -/

namespace Sys2Proof.Machine

theorem step_of_resetDue {s : State} (h : resetDue s = true) : step s = .next (resetMove s) := if_pos h

theorem step_of_never_reset {s : State} (hwas : s.wasReset = false) (hreset : resetDue s = false) :
    step s = .fault .notReset := by
  simp [step, hwas, hreset]

theorem State.pins_of_resetDue {s : State} (h : resetDue s = true) :
    s.pins = { reqReady := false, rsp := none, busy := false, err := false } := if_pos h

theorem Status.clear_word : Status.clear.word = 0#64 := by decide

theorem resetTable_of_rom {c : Config} (h : c.ptMode = .rom) : resetTable c = powerTable c (c.winCap + 1) := by
  simp [resetTable, h, powerTable]

/-- A completion is no reset, and does not undo one (R193). -/
theorem complete_wasReset {s t : State} (h : complete s = .next t) : t.wasReset = s.wasReset := by
  rcases complete_cases h with ⟨-, rfl⟩ | ⟨i, -, he⟩
  · rfl
  · rw [exec_frame he]

/-- Settles O49: the state is `State.init`'s in all that R190 names, so only the ROM table's entries and the masked outputs
are left to read off. -/
theorem resetEdgeResetsTheBlock : Obligations.ResetEdgeResetsTheBlock := by
  intro s hdue
  refine ⟨resetMove s, step_of_resetDue hdue, rfl, rfl, rfl, rfl, rfl, rfl, rfl, Status.clear_word,
    resetTable_of_grown, fun hrom => ?_, ?_⟩
  · have hpt : (resetMove s).pt = powerTable s.cfg (s.cfg.winCap + 1) := resetTable_of_rom hrom
    rw [hpt]
    exact ⟨powerTable_length _ _, fun k hk => powerTable_getElem? s.cfg (Nat.lt_succ_of_le hk)⟩
  · rw [State.pins_of_resetDue hdue]
    exact ⟨rfl, rfl, rfl, rfl⟩

/-- Settles O51: a reset edge comes before the test for a first reset, and neither a completion nor a move of the bus
clears the mark it leaves. -/
theorem nothingRunsBeforeReset : Obligations.NothingRunsBeforeReset := by
  refine ⟨fun s => step_of_never_reset, fun s hdue => ⟨resetMove s, step_of_resetDue hdue, rfl, rfl⟩, fun s hwas => ?_⟩
  cases hreset : resetDue s with
  | true => exact ⟨resetMove s, step_of_resetDue hreset, rfl⟩
  | false =>
    cases hdue : completionDue s with
    | true =>
      obtain ⟨t, hc⟩ := complete_next s
      exact ⟨t, (step_of_completion hreset hwas hdue).trans hc, (complete_wasReset hc).trans hwas⟩
    | false => exact ⟨busMove s, step_of_bus hreset hwas hdue, (busMove_host s).2.trans hwas⟩

/-- Settles O48: State.reset is `State.init` of the reference parameters, whose mode is GROWN. -/
theorem resetStateValues : Obligations.ResetStateValues :=
  ⟨rfl, rfl, rfl, rfl, rfl, resetTable_of_grown (c := Config.reference) rfl, rfl, Status.clear_word, rfl⟩

/-- Settles O50: a reset edge keeps the host's program and its responses, and of the block's side of the bus and the engine
nothing. -/
theorem resetAbortsWhatIsPending : Obligations.ResetAbortsWhatIsPending := fun s hdue =>
  ⟨resetMove s, step_of_resetDue hdue, rfl, rfl, rfl, rfl, rfl, rfl, rfl, rfl, rfl, rfl⟩

/-- Settles O59: legal parameters are all that the reset state needs for the invariant. -/
theorem resetMeetsTheBlockInvariant : Obligations.ResetMeetsTheBlockInvariant :=
  ⟨blockInv_init reference_legal, fun _ => blockInv_init,
    fun s hdue legal => ⟨resetMove s, step_of_resetDue hdue, blockInv_resetMove legal⟩⟩

end Sys2Proof.Machine
end

section
/-! A command in flight (70_reset_and_hazards.md section 3): what the host can read meanwhile (R202), that no access reaches
it (R34, R177), and that it completes (R201). -/

namespace Sys2Proof

open Sys2Proof.Machine

/-- Settles O40: the five registers a command may write are settled reads, which draw while busy; the others answer their
value. -/
theorem busyReadsAreDraws : Obligations.BusyReadsAreDraws := by
  intro s hbusy
  have hdraw := readSettled_of_busy hbusy
  refine ⟨?_, ⟨perform_read_of_eq rfl, ?_⟩, perform_read_of_eq rfl, perform_read_of_eq rfl, perform_read_of_eq rfl,
    perform_read_of_eq rfl, perform_read_of_eq rfl, perform_read_of_eq rfl, perform_read_of_eq rfl, perform_read_of_eq rfl⟩
  · intro r hr
    have hread : readReg r s = (s.drawn, Config.freeRead s.draws) := by
      rcases hr with rfl | rfl | rfl | rfl | rfl <;> exact hdraw _
    rw [perform_readRequest, hread]
    rfl
  · rw [Status.word_getLsbD]
    exact hbusy

/-- `t` has the command latched in `s` in flight, due after `d` more moves, with a reset behind and none to come. -/
structure AwaitsCompletion (s : State) (d : Nat) (t : State) : Prop where
  busy : t.status.busy = true
  wasReset : t.wasReset = true
  rst : t.rst = []
  engineDelay : t.engineDelay = d
  lop : t.lop = s.lop
  la : t.la = s.la
  lb : t.lb = s.lb

theorem AwaitsCompletion.tick {s t : State} {d : Nat} (h : AwaitsCompletion s (d + 1) t) : AwaitsCompletion s d t.tick := by
  refine ⟨h.busy, h.wasReset, ?_, ?_, h.lop, h.la, h.lb⟩
  · rw [State.tick_rst, h.rst]
    rfl
  · rw [State.tick_engineDelay, h.engineDelay, Nat.add_sub_cancel]

/-- While a command is in flight a CMD write only sets OVR, and the other writes do not reach the command (R34, R177). -/
theorem AwaitsCompletion.writeReg {s t u : State} {d : Nat} {reg : Reg} {v : Word} (h : AwaitsCompletion s d t)
    (hw : writeReg reg v t = some u) : AwaitsCompletion s d u := by
  cases reg with
  | cmd =>
    obtain rfl : t.raise .ovr = u := (writeCmd_of_busy h.busy v).symm.trans (Option.some.inj hw)
    exact { h with busy := (Status.set_busy .ovr t.status).trans h.busy }
  | opa | opb | widx =>
    cases hw
    exact { h with }
  | result | hash | wlen | plen | status | modr | baser | capr | config | wdata => cases hw

/-- No access of the host reaches a command in flight (R34, R58, R177). -/
theorem AwaitsCompletion.perform {s t : State} {d : Nat} (h : AwaitsCompletion s d t) (r : Request) :
    AwaitsCompletion s d (perform r t).1 := by
  rcases perform_cases r t with hsame | ⟨reg, hread⟩ | ⟨reg, hwrite⟩
  · rwa [hsame]
  · rw [hread, readReg_frame]
    exact { h with }
  · exact h.writeReg hwrite

/-- A move of the bus is one of the moves the command waits for, whatever the host does in it (R201). -/
theorem AwaitsCompletion.busMove {s t : State} {d : Nat} (h : AwaitsCompletion s (d + 1) t) :
    AwaitsCompletion s d (busMove t) := by
  rcases busMove_cases t with ⟨rsp, -, -, hmove⟩ | ⟨rsp, -, -, hmove⟩ | ⟨op, -, -, -, hmove⟩ | ⟨-, -, hmove⟩
  · rw [hmove]
    exact { h.tick with }
  · rw [hmove]
    exact { h.tick with }
  · rw [hmove]
    exact { h.tick.perform op.request with }
  · rw [hmove]
    exact h.tick

theorem AwaitsCompletion.resetDue_eq_false {s t : State} {d : Nat} (h : AwaitsCompletion s d t) : resetDue t = false := by
  simp [resetDue, h.rst]

theorem AwaitsCompletion.step_of_pos {s t : State} {d : Nat} (h : AwaitsCompletion s (d + 1) t) :
    step t = .next (Machine.busMove t) := by
  refine step_of_bus h.resetDue_eq_false h.wasReset ?_
  simp [completionDue, h.engineDelay]

theorem AwaitsCompletion.step_of_zero {s t : State} (h : AwaitsCompletion s 0 t) : step t = complete t := by
  refine step_of_completion h.resetDue_eq_false h.wasReset ?_
  simp [completionDue, h.busy, h.engineDelay]

theorem run_succ_of_step {M : Host.Core} {s t : M.State} (n : Nat) (h : M.step s = .next t) :
    M.run (n + 1) s = M.run n t := by
  rw [Host.Core.run, h]

/-- The command stays in flight for as many moves as its delay counts (R201). -/
theorem AwaitsCompletion.run {s t : State} {d n : Nat} (h : AwaitsCompletion s (d + n) t) :
    ∃ u, core.run n t = .next u ∧ AwaitsCompletion s d u := by
  induction n generalizing t with
  | zero => exact ⟨t, rfl, h⟩
  | succ n ih =>
    obtain ⟨u, hrun, hu⟩ := ih h.busMove
    exact ⟨u, (run_succ_of_step (M := core) n h.step_of_pos).trans hrun, hu⟩

/-- The step after the last of them is the completion (R201). -/
theorem AwaitsCompletion.run_completes {s t : State} {d : Nat} (h : AwaitsCompletion s d t) :
    ∃ u : State, core.run (d + 1) t = .next u ∧ u.status.busy = false := by
  induction d generalizing t with
  | zero =>
    obtain ⟨u, hc⟩ := complete_next t
    exact ⟨u, run_succ_of_step (M := core) 0 (h.step_of_zero.trans hc), complete_busy hc⟩
  | succ d ih =>
    obtain ⟨u, hrun, hidle⟩ := ih h.busMove
    exact ⟨u, (run_succ_of_step (M := core) (d + 1) h.step_of_pos).trans hrun, hidle⟩

/-- Settles O54: each move of the bus keeps the command in flight and takes one from its delay, until none is left and the
next step completes it. -/
theorem commandsComplete : Obligations.CommandsComplete := by
  intro s hbusy hwas hrst
  have hstart : AwaitsCompletion s s.engineDelay s := ⟨hbusy, hwas, hrst, rfl, rfl, rfl, rfl⟩
  refine ⟨fun n hn => ?_, hstart.run_completes⟩
  rw [← Nat.sub_add_cancel hn] at hstart
  obtain ⟨t, hrun, ht⟩ := hstart.run
  exact ⟨t, hrun, ht.busy, ht.engineDelay, ht.lop, ht.la, ht.lb⟩

end Sys2Proof
end
